-- ==== Sys2Proof/Word.lean ====
section
/-! DEFINITION. The byte of the two serial ports, and the numbered things of sections 0.5 and 0.6 of the
scope file: each is a bounded number because the spec names it by its number. -/

namespace Sys2Proof

/-- One byte on a serial port (R197). -/
abbrev Byte := BitVec 8

/-- A grant slot, 0..31 (R1). -/
abbrev SlotIx := Fin 32

/-- A slot's generation, 0..15 (R1). -/
abbrev Generation := Fin 16

/-- A channel, CH0..CH15. -/
abbrev Channel := Fin 16

/-- A client, C0..C7. -/
abbrev Client := Fin 8

/-- A priority, 0..7, 7 the most important (R4). -/
abbrev Priority := Fin 8

/-- A segment of the frame, 0..63 (R30). -/
abbrev Segment := Fin 64

/-- A step of the frame, 0..2047 (R30). -/
abbrev StepIx := Fin 2048

/-- A tier, TIER0..TIER3, the larger the more severe (section 0.6). -/
abbrev Tier := Fin 4

end Sys2Proof
end

