-- ==== Sys2Proof/Config.lean ====
section
/-! DEFINITION. What the part number fixes: the constants of the U1632 and the hard reset values of its settings
(R177, R180, R185). The spec leaves no value of the part to the implementation, so this file has no
body-less constant (see notes/assumptions/16.md). -/

namespace Sys2Proof.Config

/-- Steps in a frame (R30). -/
def frameSteps : Nat := 2048

/-- Steps in a segment (R30). -/
def segmentSteps : Nat := 32

/-- The largest handle value (R14). -/
def maxHandle : Nat := 511

/-- The largest duty (section 0.5). -/
def maxDuty : Nat := 2048

/-- The ramp rate argument that asks for the channel profile's default (R199). -/
def rateDefaultCode : Nat := 256

/-- The largest load current of a channel profile (R177). -/
def maxCurrent : Nat := 250

/-- The largest peak ceiling (R180). -/
def maxPeak : Nat := 4000

/-- The largest charge ceiling (R180). -/
def maxCharge : Nat := 256000

/-- The mismatch count at which a channel becomes FAULTED (R163). -/
def faultCount : Nat := 3

/-- One ladder code in microvolts: 1.2 V / 64 (R133). -/
def ladderMicrovolts : Nat := 18750

/-- The base of Port B's address (R191). -/
def i2cBase : BitVec 7 := 0x2C

/-- The SPI transaction kind REQUEST (R197). -/
def kindRequest : Byte := 0x3C

/-- The SPI transaction kind READ (R197). -/
def kindRead : Byte := 0xC3

end Sys2Proof.Config
end

