-- ==== Sys2Proof/Syntax.lean ====
section
/-! DEFINITION. The commands of the block: one constructor for each row of spec/opcode_table.json, with the
operands its rule gives. A request's operands are the bytes of the request the arbiter takes; an input pin or
SENSE shows its level as an operand of the command that samples it. -/

namespace Sys2Proof

/-- The two request ports (section 0.3). -/
inductive Port where
  /-- Port A, the SPI target of C0..C3. -/
  | a
  /-- Port B, the I2C target of C4..C7. -/
  | b
deriving DecidableEq, Repr

/-- The voltage at SENSE at the instant of each comparison of one sample (R133), in microvolts rounded down. One
ladder code is a whole number of microvolts, so the rounding loses no comparison. -/
structure SenseReading where
  /-- at the comparison with T1 -/
  atT1 : Nat
  /-- at the comparison with T2 -/
  atT2 : Nat
  /-- at the comparison with T3 -/
  atT3 : Nat
  /-- at the comparison with the recovery code, made when the supply tier is 1 or more -/
  atRecovery : Nat
deriving DecidableEq, Repr

/-- The levels at LIMIT0 and LIMIT1 when one sample is taken (R138), true for high. -/
structure LimitLevels where
  /-- LIMIT0 is high -/
  limit0High : Bool
  /-- LIMIT1 is high -/
  limit1High : Bool
deriving DecidableEq, Repr

/-- The commands. -/
inductive Instr where
  /-- REQUEST_TRANSACTION (R189): the bytes clocked in on MOSI after the kind byte, until CS_N rises. -/
  | requestTransaction (mosi : List Byte)
  /-- READ_TRANSACTION (R190): how many bytes the host clocks after the kind byte. -/
  | readTransaction (clocked : Nat)
  /-- I2C_WRITE_TRANSACTION (R191): the address on the bus and the bytes after it, until STOP or a repeated START. -/
  | i2cWriteTransaction (address : BitVec 7) (bytes : List Byte)
  /-- I2C_READ_TRANSACTION (R192): the address on the bus and how many bytes the host reads. -/
  | i2cReadTransaction (address : BitVec 7) (clocked : Nat)
  /-- UNKNOWN_REQUEST (R194): the arbiter takes a request whose code is not in the table of R198. -/
  | unknownRequest (port : Port) (client code : Byte) (payload : List Byte)
  /-- GRANT (R51): the arbiter takes the request of code 0x01 that waits at the port, with this client byte and payload. -/
  | grant (port : Port) (client : Byte) (payload : List Byte)
  /-- ADJUST (R102). -/
  | adjust (port : Port) (client : Byte) (payload : List Byte)
  /-- RENEW (R119). -/
  | renew (port : Port) (client : Byte) (payload : List Byte)
  /-- RELEASE (R121). -/
  | release (port : Port) (client : Byte) (payload : List Byte)
  /-- ACK (R123). -/
  | ack (port : Port) (client : Byte) (payload : List Byte)
  /-- REVOKE (R125). -/
  | revoke (port : Port) (client : Byte) (payload : List Byte)
  /-- DROP_CLIENT (R128). -/
  | dropClient (port : Port) (client : Byte) (payload : List Byte)
  /-- QUERY (R26). -/
  | query (port : Port) (client : Byte) (payload : List Byte)
  /-- LIST (R29). -/
  | list (port : Port) (client : Byte) (payload : List Byte)
  /-- MAP_READ (R47). -/
  | mapRead (port : Port) (client : Byte) (payload : List Byte)
  /-- CLEAR_FAULT (R167). -/
  | clearFault (port : Port) (client : Byte) (payload : List Byte)
  /-- STATUS (R183). -/
  | status (port : Port) (client : Byte) (payload : List Byte)
  /-- GET_PROFILE (R179). -/
  | getProfile (port : Port) (client : Byte) (payload : List Byte)
  /-- SET_PROFILE (R178). -/
  | setProfile (port : Port) (client : Byte) (payload : List Byte)
  /-- SET_TIERS (R180). -/
  | setTiers (port : Port) (client : Byte) (payload : List Byte)
  /-- SET_MONITOR (R181). -/
  | setMonitor (port : Port) (client : Byte) (payload : List Byte)
  /-- SET_FRAME (R182). -/
  | setFrame (port : Port) (client : Byte) (payload : List Byte)
  /-- START (R171). -/
  | start (port : Port) (client : Byte) (payload : List Byte)
  /-- STOP (R173). -/
  | stop (port : Port) (client : Byte) (payload : List Byte)
  /-- CLEAR (R175). -/
  | clear (port : Port) (client : Byte) (payload : List Byte)
  /-- FRAME_START (R152): the rest of the frame's steps pass and the step counter passes from 2047 to 0. -/
  | frameStart
  /-- ENGINE_FRAME_START (R156): the output engine takes a raised frame start. -/
  | engineFrameStart
  /-- CHANNEL_BECOMES_FAULTED (R163): the output engine takes the frame start whose evaluation brings this channel's
  mismatch count to 3. -/
  | channelBecomesFaulted (channel : Channel)
  /-- READBACK_SAMPLE (R162): the pin of the channel is read back at the present step and shows this level. -/
  | readbackSample (channel : Channel) (pinHigh : Bool)
  /-- SAMPLE (R133): the supply tier unit takes a raised frame start and sees these levels. -/
  | sample (sense : SenseReading) (limits : LimitLevels)
  /-- DOWN_DEBOUNCE (R135): the sample that brings the down counter to N_down. -/
  | downDebounce (sense : SenseReading) (limits : LimitLevels)
  /-- UP_HOLD_OFF (R136): the sample that brings the up counter to the hold-off. -/
  | upHoldOff (sense : SenseReading) (limits : LimitLevels)
  /-- LEASE_TICK (R115): the grant controller takes a raised lease tick. -/
  | leaseTick
  /-- LEASE_EXPIRY (R116): the grant controller takes the lease tick that brings this slot's lease remaining to 0. -/
  | leaseExpiry (slot : SlotIx)
  /-- RAMP_COMPLETE (R107): the grant controller takes a raised ramp complete with this handle and duty. -/
  | rampComplete (handle duty : Nat)
  /-- CHANNEL_FAULT (R165): the grant controller takes a raised channel fault of this channel. -/
  | channelFault (channel : Channel)
  /-- TIER_CHANGE (R142): the grant controller takes a raised tier change. -/
  | tierChange
  /-- PLAN_COMPLETE (R87): the grant controller takes a raised plan complete with this plan serial. -/
  | planComplete (serial : Byte)
  /-- PLAN_FAILED (R86): the grant controller takes a raised plan failed with this plan serial. -/
  | planFailed (serial : Byte)
  /-- REPACK_APPLY (R88): the grant controller takes a raised frame start. -/
  | repackApply
  /-- HARD_RESET (R185): power-on, or RESET_N goes low. -/
  | hardReset
  /-- RESET_END (R154): RESET_N rises or power-on reset ends, with these levels at ADDR1 and ADDR0, and with or without
  a transaction on the wire of each port (R186). -/
  | resetEnd (addr1 addr0 onWireA onWireB : Bool)
  /-- STEP_COUNTER_ADVANCE (R152): one step of the step clock. -/
  | stepCounterAdvance
  /-- UNKNOWN_TRANSACTION_KIND (R190): an SPI transaction that opens with this kind byte, and how many bytes the host
  clocks after it. -/
  | unknownTransactionKind (kind : Byte) (clocked : Nat)
deriving DecidableEq, Repr

end Sys2Proof
end

