-- ==== Sys2Proof/WellFormed.lean ====
section
/-! DEFINITION. Which commands the spec's own bounds allow: a payload of at most 24 bytes (R188), an unknown code that
is not in the table of R198, an unknown kind that is neither REQUEST nor READ (R197), a ramp complete that names a
handle and a duty in range (R14, section 0.5). -/

namespace Sys2Proof

/-- The request codes of R198. -/
def knownCodes : List Byte :=
  [0x01, 0x02, 0x03, 0x04, 0x05, 0x06, 0x07, 0x10, 0x11, 0x12, 0x18, 0x13, 0x14, 0x20, 0x21, 0x22, 0x23, 0x28, 0x29, 0x2A]

/-- A request frame carries 0 to 24 payload bytes (R188). -/
def payloadFits (payload : List Byte) : Bool := payload.length ≤ 24

/-- The command lies within the bounds the spec gives its operands. -/
def Instr.wellFormed (i : Instr) : Bool :=
  match i with
  | .requestTransaction _ => true
  | .readTransaction _ => true
  | .i2cWriteTransaction _ _ => true
  | .i2cReadTransaction _ _ => true
  | .unknownRequest _ _ code pl => payloadFits pl && !(knownCodes.contains code)
  | .grant _ _ pl => payloadFits pl
  | .adjust _ _ pl => payloadFits pl
  | .renew _ _ pl => payloadFits pl
  | .release _ _ pl => payloadFits pl
  | .ack _ _ pl => payloadFits pl
  | .revoke _ _ pl => payloadFits pl
  | .dropClient _ _ pl => payloadFits pl
  | .query _ _ pl => payloadFits pl
  | .list _ _ pl => payloadFits pl
  | .mapRead _ _ pl => payloadFits pl
  | .clearFault _ _ pl => payloadFits pl
  | .status _ _ pl => payloadFits pl
  | .getProfile _ _ pl => payloadFits pl
  | .setProfile _ _ pl => payloadFits pl
  | .setTiers _ _ pl => payloadFits pl
  | .setMonitor _ _ pl => payloadFits pl
  | .setFrame _ _ pl => payloadFits pl
  | .start _ _ pl => payloadFits pl
  | .stop _ _ pl => payloadFits pl
  | .clear _ _ pl => payloadFits pl
  | .frameStart => true
  | .engineFrameStart => true
  | .channelBecomesFaulted _ => true
  | .readbackSample _ _ => true
  | .sample _ _ => true
  | .downDebounce _ _ => true
  | .upHoldOff _ _ => true
  | .leaseTick => true
  | .leaseExpiry _ => true
  | .rampComplete handle duty => handle ≤ Config.maxHandle && duty ≤ Config.maxDuty
  | .channelFault _ => true
  | .tierChange => true
  | .planComplete _ => true
  | .planFailed _ => true
  | .repackApply => true
  | .hardReset => true
  | .resetEnd _ _ _ _ => true
  | .stepCounterAdvance => true
  | .unknownTransactionKind kind _ => kind != Config.kindRequest && kind != Config.kindRead

end Sys2Proof
end

