-- ==== Sys2Proof/Decode.lean ====
section
/-! DEFINITION. The command a table word spells. No row of spec/opcode_table.json gives bits (each row's fields are
empty): a command of this block arrives as a transaction or an event, and the bytes of a request are judged and
read by Sys2Proof/Machine/Ports.lean and Sys2Proof/Machine/Operands.lean. -/

namespace Sys2Proof

/-- No row of the table gives bits, so no word spells a command. -/
def decodeTableWord (_nbits _w : Nat) : Option Instr := none

end Sys2Proof
end

