-- ==== Sys2Proof/Machine/State.lean ====
section
/-! DEFINITION. The whole state of the U1632 as plain data, block by block as section 0.4 lists it, the outcomes' reason
types, and the machine right after reset. -/

namespace Sys2Proof.Machine

/-! ## The grant table (chapter 1) -/

/-- Why the part retired a grant (R10). -/
inductive CloseReason where
  | expired
  | channelFault
  | revoked
deriving DecidableEq, Repr

/-- A grant's notice set (R23). -/
structure Notices where
  admitted : Bool
  shed : Bool
  preempted : Bool
  rampDone : Bool
  closed : Bool
deriving DecidableEq, Repr

/-- A grant's state (R12) with the fields that R4 gives in that state alone. FREE is a slot that holds no grant. -/
inductive GrantState where
  /-- ACTIVE, with start segment and reservation -/
  | active (start : Segment) (reservation : Nat)
  /-- DEFERRED -/
  | deferred
  /-- QUEUED -/
  | queued
  /-- CLOSED, with close reason -/
  | closed (reason : CloseReason)
deriving DecidableEq, Repr

/-- The grant record (R4), but for the generation, which the slot keeps in every state. -/
structure Grant where
  state : GrantState
  owner : Client
  channel : Channel
  priority : Priority
  targetDuty : Nat
  presentDuty : Nat
  rampRate : Nat
  rampNotify : Bool
  leaseLength : Nat
  leaseRemaining : Option Nat
  notices : Notices
deriving DecidableEq, Repr

/-- One slot of the table (R1): FREE when it holds no grant. -/
structure Slot where
  generation : Generation
  grant : Option Grant
deriving DecidableEq, Repr

/-! ## The repack (chapter 4) -/

/-- The repack condition (R79). -/
inductive RepackCondition where
  | idle
  | planning
  | applyPending
deriving DecidableEq, Repr

/-- What a held request asked for, with the items R79 gives each kind. -/
inductive HeldKind where
  | grant (channel : Channel) (priority : Priority) (duty leaseLength : Nat)
  | adjust (handle : Nat) (target : Nat)
deriving DecidableEq, Repr

/-- The held request record (R79). -/
structure HeldRequest where
  kind : HeldKind
  client : Client
  port : Port
  rampRate : Nat
  rampNotify : Bool
  needed : Nat
deriving DecidableEq, Repr

/-- An entry of the planner's input set (R81); the requested grant of a GRANT has no slot. -/
structure PlanEntry where
  slot : Option SlotIx
  channel : Channel
  current : Nat
  home : Segment
  pinned : Bool
  priority : Priority
  footprint : Nat
deriving DecidableEq, Repr

/-- A proposed start segment (R82). -/
structure Proposal where
  entry : PlanEntry
  start : Segment
deriving DecidableEq, Repr

/-- The placement planner (R82): the plan serial it works on, the input set copy with the copied ceilings, the working
map and working charge, and the plan, if it has one. -/
structure Planner where
  serial : Byte
  input : List PlanEntry
  peak : Nat
  charge : Nat
  workMap : Vector Nat 64
  workCharge : Nat
  plan : Option (List Proposal)
deriving DecidableEq, Repr

/-- The grant controller. -/
structure Controller where
  /-- the grant table (R1) -/
  table : Vector Slot 32
  /-- the waiting list, head first (R19) -/
  waiting : List SlotIx
  /-- the admission list, oldest first (R22) -/
  admission : List SlotIx
  /-- the load map (R35) -/
  loadMap : Vector Nat 64
  /-- the total charge (R36) -/
  totalCharge : Nat
  /-- the tier in force (R42) -/
  tierInForce : Tier
  /-- the peak ceiling in force (R42) -/
  peakInForce : Nat
  /-- the charge ceiling in force (R42) -/
  chargeInForce : Nat
  /-- the repack condition (R79) -/
  repack : RepackCondition
  /-- the held request record (R79) -/
  held : Option HeldRequest
  /-- the plan serial (R79) -/
  planSerial : Byte
  /-- the notice summary of Port A (R25) -/
  summaryA : Bool
  /-- the notice summary of Port B (R25) -/
  summaryB : Bool
deriving DecidableEq, Repr

/-! ## The frame timer and the output engine (chapter 8) -/

/-- The frame timer (R152). -/
structure FrameTimer where
  step : StepIx
  frameCount : Fin 65536
  /-- the model's own: another block has taken the frame start of this boundary first, and the advance of the frame count is
  still to come at it (R184, notes/assumptions/25.md) -/
  countDue : Bool := false
deriving DecidableEq, Repr

/-- An on-window of the live image (R155): a start step and a length of 1..2048 steps. -/
structure Window where
  start : StepIx
  length : Nat
deriving DecidableEq, Repr

/-- A channel's fault state (R155). -/
inductive FaultState where
  | ok
  | faulted
deriving DecidableEq, Repr

/-- A readback sample of the current frame (R155). -/
inductive SampleMark where
  | notTaken
  | matched
  | mismatched
deriving DecidableEq, Repr

/-- What the output engine holds for one channel (R155). The window captured at the frame's start is kept beside the live
window, because it fixes the sample steps after a blanking too (R162). -/
structure ChannelUnit where
  window : Option Window
  captured : Option Window
  fault : FaultState
  mismatches : Nat
  inside : SampleMark
  outside : SampleMark
deriving DecidableEq, Repr

/-! ## The supply tier unit (chapter 7) -/

/-- What the supply tier unit holds for one LIMIT pin (R132): the last sample (true active, none before the first) and
whether the pin is asserted. -/
structure LimitPin where
  lastSample : Option Bool
  asserted : Bool
deriving DecidableEq, Repr

/-- The supply tier unit (R132). -/
structure TierUnit where
  supplyTier : Tier
  down : Nat
  up : Nat
  band : Fin 4
  limit0 : LimitPin
  limit1 : LimitPin
  effective : Tier
deriving DecidableEq, Repr

/-! ## The configuration block (chapter 9) -/

/-- The device mode (R169). -/
inductive Mode where
  | config
  | run
deriving DecidableEq, Repr

/-- The drive of a channel output (R160). -/
inductive Drive where
  | pushPull
  | openDrain
deriving DecidableEq, Repr

/-- The polarity of a channel output (R160). -/
inductive Polarity where
  | activeHigh
  | activeLow
deriving DecidableEq, Repr

/-- A channel profile (R177). -/
structure Profile where
  enabled : Bool
  drive : Drive
  polarity : Polarity
  current : Nat
  maxDuty : Nat
  home : Segment
  pinned : Bool
  defaultRamp : Nat
  readback : Bool
deriving DecidableEq, Repr

/-- The peak and charge ceiling of one tier (R180). -/
structure Ceilings where
  peak : Nat
  charge : Nat
deriving DecidableEq, Repr

/-- The tier table (R180): TIER0, TIER1, TIER2. -/
structure TierTable where
  tier0 : Ceilings
  tier1 : Ceilings
  tier2 : Ceilings
deriving DecidableEq, Repr

/-- The settings of one LIMIT pin (R132). -/
structure LimitSetting where
  activeLow : Bool
  minTier : Tier
deriving DecidableEq, Repr

/-- The monitor settings (R132). -/
structure Monitor where
  enabled : Bool
  t1 : Nat
  t2 : Nat
  t3 : Nat
  hysteresis : Nat
  nDown : Nat
  holdOff : Nat
  limit0 : LimitSetting
  limit1 : LimitSetting
deriving DecidableEq, Repr

/-- The configuration block (section 0.4). -/
structure Configuration where
  mode : Mode
  profiles : Vector Profile 16
  tiers : TierTable
  monitor : Monitor
  /-- the frame divider D (R182) -/
  divider : Nat
  /-- the lease-tick exponent L (R182) -/
  leaseExponent : Nat
deriving DecidableEq, Repr

/-! ## The request ports (chapter 10) -/

/-- The port state (R186). -/
inductive PortState where
  | idle
  | inFlight
  | ready
deriving DecidableEq, Repr

/-- The link verdicts (R187). -/
inductive Verdict where
  | accepted
  | busy
  | checkFail
  | frameError
deriving DecidableEq, Repr

/-- Whether a held request still waits for the arbiter (R186). -/
inductive HolderMark where
  | waiting
  | taken
deriving DecidableEq, Repr

/-- A request (R186). -/
structure Request where
  client : Byte
  code : Byte
  payload : List Byte
deriving DecidableEq, Repr

/-- The request holder's content (R186). -/
structure HeldFrame where
  request : Request
  mark : HolderMark
deriving DecidableEq, Repr

/-- The details of NO_ROOM (R198). -/
inductive NoRoom where
  | firstFit
  | repackFailed
  | repackAbandoned
  | tier3
deriving DecidableEq, Repr

/-- The result codes with their details (R198). -/
inductive Result where
  | ok
  /-- OK to a LIST, whose detail is the entry count -/
  | okListed (count : Nat)
  | queued
  | deferred
  | retry
  | noRoom (detail : NoRoom)
  | noSlot
  | channelHeld
  | duplicate
  | overLimit
  | channelOff
  | channelFault
  | stale
  | closed (reason : CloseReason)
  | notOwner
  | notPermitted
  | badClient
  | badArg
  /-- BAD_CONFIG, no channel enabled -/
  | badConfigNoChannel
  /-- BAD_CONFIG, tier table out of order -/
  | badConfigTiers
  | wrongMode
  | unknownRequest
deriving DecidableEq, Repr

/-- A response frame (R197) but for its length and check bytes, which follow from the rest. -/
structure Response where
  client : Byte
  code : Byte
  result : Result
  payload : List Byte
deriving DecidableEq, Repr

/-- What the part put on a port's wire in the port's last transaction: on Port A the MISO bytes; on Port B an
acknowledge bit for the address and for each byte written, and the bytes sent. The model's own record of an output
(notes/assumptions/11.md). -/
structure WireRecord where
  acks : List Bool
  bytes : List Byte
deriving DecidableEq, Repr

/-- One port (R186), with its ALERT line (R196) and whether it ignores a transaction that was on the wire when a reset
ended (R186). -/
structure PortUnit where
  state : PortState
  request : Option HeldFrame
  response : Option Response
  verdict : Option Verdict
  alertLow : Bool
  ignoring : Bool
  wire : WireRecord
deriving DecidableEq, Repr

/-! ## Events raised and not yet taken (section 0.6) -/

/-- A plan event (R82): the planner's outcome, marked with the plan serial. -/
structure PlanEvent where
  complete : Bool
  serial : Byte
deriving DecidableEq, Repr

/-- A ramp complete event (R100). -/
structure RampEvent where
  handle : Nat
  duty : Nat
deriving DecidableEq, Repr

/-- The events raised by one block and not yet taken by another. A frame start waits for each of its three takers. -/
structure Events where
  engineFrames : Nat
  supplyFrames : Nat
  controllerFrames : Nat
  leaseTicks : Nat
  tierChanges : Nat
  rampCompletes : List RampEvent
  channelFaults : List Channel
  planEvents : List PlanEvent
deriving DecidableEq, Repr

/-! ## The block -/

/-- The whole state, block by block. -/
structure State where
  /-- RESET_N is low or power-on reset lasts (R185) -/
  inReset : Bool
  config : Configuration
  ctl : Controller
  planner : Planner
  timer : FrameTimer
  engine : Vector ChannelUnit 16
  supply : TierUnit
  portA : PortUnit
  portB : PortUnit
  /-- Port B's address, latched when the reset ended (R191) -/
  addressB : BitVec 7
  /-- the request arbiter's preferred port (R193) -/
  preferred : Port
  events : Events
  /-- the commands that wait, first in, first out (the model's own: notes/assumptions/1.md) -/
  pending : List Instr
deriving DecidableEq, Repr

/-- Why a step could stop. The spec gives every command an effect in every state and the part never halts, so there is no
fault: nothing raises one. -/
inductive Fault where
deriving DecidableEq, Repr

/-- Why a command could have no meaning. -/
inductive Refusal where
  /-- a row of the table that exec does not model yet, by its mnemonic; no arm raises it. Safe: the run stops. -/
  | notModelled (mnemonic : String)
deriving DecidableEq, Repr

/-! ## The machine right after reset -/

/-- No notice (R3). -/
def Notices.empty : Notices :=
  { admitted := false, shed := false, preempted := false, rampDone := false, closed := false }

/-- The hard reset profile of a channel (R177): home segment 4 × channel number, modulo 64. -/
def Profile.reset (ch : Channel) : Profile :=
  { enabled := false, drive := .pushPull, polarity := .activeHigh, current := 1, maxDuty := 2048,
    home := ⟨4 * ch.val % 64, Nat.mod_lt _ (by decide)⟩, pinned := false, defaultRamp := 0, readback := false }

/-- The hard reset tier table (R180). -/
def TierTable.reset : TierTable := { tier0 := ⟨1000, 32000⟩, tier1 := ⟨500, 16000⟩, tier2 := ⟨250, 8000⟩ }

/-- The hard reset monitor settings (R132). -/
def Monitor.reset : Monitor :=
  { enabled := false, t1 := 48, t2 := 40, t3 := 32, hysteresis := 2, nDown := 3, holdOff := 500,
    limit0 := ⟨false, 0⟩, limit1 := ⟨false, 0⟩ }

/-- The hard reset configuration (R185). -/
def Configuration.reset : Configuration :=
  { mode := .config, profiles := Vector.ofFn Profile.reset, tiers := TierTable.reset, monitor := Monitor.reset,
    divider := 8, leaseExponent := 4 }

/-- The grant controller after a hard reset (R2, R46, R79). -/
def Controller.reset : Controller :=
  { table := Vector.replicate 32 ⟨0, none⟩, waiting := [], admission := [], loadMap := Vector.replicate 64 0,
    totalCharge := 0, tierInForce := 0, peakInForce := 1000, chargeInForce := 32000, repack := .idle, held := none,
    planSerial := 0, summaryA := false, summaryB := false }

/-- The planner after a hard reset: there is no plan (R82). The other values are notes/assumptions/18.md's. -/
def Planner.reset : Planner :=
  { serial := 0, input := [], peak := 0, charge := 0, workMap := Vector.replicate 64 0, workCharge := 0, plan := none }

/-- A channel of the output engine after a hard reset (R155). -/
def ChannelUnit.reset : ChannelUnit :=
  { window := none, captured := none, fault := .ok, mismatches := 0, inside := .notTaken, outside := .notTaken }

/-- The supply tier unit after a hard reset (R132). -/
def TierUnit.reset : TierUnit :=
  { supplyTier := 0, down := 0, up := 0, band := 0, limit0 := ⟨none, false⟩, limit1 := ⟨none, false⟩, effective := 0 }

/-- A port after a hard reset (R186, R196). -/
def PortUnit.reset : PortUnit :=
  { state := .idle, request := none, response := none, verdict := none, alertLow := false, ignoring := false,
    wire := ⟨[], []⟩ }

/-- No event is raised after a hard reset. -/
def Events.reset : Events :=
  { engineFrames := 0, supplyFrames := 0, controllerFrames := 0, leaseTicks := 0, tierChanges := 0,
    rampCompletes := [], channelFaults := [], planEvents := [] }

/-- The machine right after reset: RESET_N is high again, ADDR1 and ADDR0 were low (notes/assumptions/7.md), no command
waits. -/
def State.reset : State :=
  { inReset := false, config := Configuration.reset, ctl := Controller.reset, planner := Planner.reset,
    timer := { step := 0, frameCount := 0 }, engine := Vector.replicate 16 ChannelUnit.reset, supply := TierUnit.reset,
    portA := PortUnit.reset, portB := PortUnit.reset, addressB := Config.i2cBase, preferred := .a,
    events := Events.reset, pending := [] }

end Sys2Proof.Machine
end

