-- ==== Sys2Proof/Machine/Operands.lean ====
section
/-! DEFINITION. The operands of the requests, read from their payload bytes (R197, R199), and the items of responses,
written as bytes (R200). A reader answers none where the request's own rule answers BAD_ARG. -/

namespace Sys2Proof.Machine

/-! ## Bytes: most significant first (R197) -/

/-- A two-byte value. -/
def read16 (hi lo : Byte) : Nat := hi.toNat * 256 + lo.toNat

/-- A three-byte value. -/
def read24 (hi mid lo : Byte) : Nat := (hi.toNat * 256 + mid.toNat) * 256 + lo.toNat

/-- A one-byte item. -/
def put8 (n : Nat) : List Byte := [BitVec.ofNat 8 n]

/-- A two-byte item. -/
def put16 (n : Nat) : List Byte := [BitVec.ofNat 8 (n / 256), BitVec.ofNat 8 n]

/-- A three-byte item. -/
def put24 (n : Nat) : List Byte := [BitVec.ofNat 8 (n / 65536), BitVec.ofNat 8 (n / 256), BitVec.ofNat 8 n]

/-- A one-byte item that may be absent: 0xFF (R200). -/
def put8? (n : Option Nat) : List Byte := put8 (n.getD 0xFF)

/-- A two-byte item that may be absent: 0xFFFF (R200). -/
def put16? (n : Option Nat) : List Byte := put16 (n.getD 0xFFFF)

/-- A yes/no item: 1 for yes, 0 for no, the code R200 gives ramp notify and slot freed; where it gives none,
notes/assumptions/24.md (DEDUCED). -/
def putBool (b : Bool) : List Byte := put8 (if b then 1 else 0)

/-! ## Numbers with a bound -/

/-- A channel number, 0..15. -/
def channelOf (b : Byte) : Option Channel := if h : b.toNat < 16 then some ⟨b.toNat, h⟩ else none

/-- A client number, 0..7. -/
def clientOf (b : Byte) : Option Client := if h : b.toNat < 8 then some ⟨b.toNat, h⟩ else none

/-- A priority, 0..7. -/
def priorityOf (b : Byte) : Option Priority := if h : b.toNat < 8 then some ⟨b.toNat, h⟩ else none

/-- A segment, 0..63. -/
def segmentOf (b : Byte) : Option Segment := if h : b.toNat < 64 then some ⟨b.toNat, h⟩ else none

/-- A tier number, 0..3. -/
def tierOf (b : Byte) : Option Tier := if h : b.toNat < 4 then some ⟨b.toNat, h⟩ else none

/-- A duty, 0..2048. -/
def dutyOf (hi lo : Byte) : Option Nat :=
  if read16 hi lo ≤ Config.maxDuty then some (read16 hi lo) else none

/-! ## Handles (R14) -/

/-- handle value = generation × 32 + slot (R14). -/
def handleValue (slot : SlotIx) (gen : Generation) : Nat := gen.val * 32 + slot.val

/-- The slot a handle names. -/
def handleSlot (handle : Nat) : SlotIx := ⟨handle % 32, Nat.mod_lt _ (by decide)⟩

/-- The generation a handle names. -/
def handleGeneration (handle : Nat) : Generation := ⟨handle / 32 % 16, Nat.mod_lt _ (by decide)⟩

/-- A handle argument; a value above 511 is out of range (R16 check 2). -/
def handleOf (hi lo : Byte) : Option Nat :=
  if read16 hi lo ≤ Config.maxHandle then some (read16 hi lo) else none

/-! ## Ramp rates (R7, R199) -/

/-- The ramp rate argument of GRANT and ADJUST. -/
inductive RateArg where
  | steps (n : Nat)
  | profileDefault
deriving DecidableEq, Repr

/-- 0..255 is a rate, 256 asks for the profile's default, above 256 is out of range (R199). -/
def rateOf (hi lo : Byte) : Option RateArg :=
  if read16 hi lo < Config.rateDefaultCode then some (.steps (read16 hi lo))
  else if read16 hi lo = Config.rateDefaultCode then some .profileDefault
  else none

/-- The rate the record holds: a request for the default is resolved when the request is taken (R7). -/
def resolveRate (a : RateArg) (p : Profile) : Nat :=
  match a with
  | .steps n => n
  | .profileDefault => p.defaultRamp

/-! ## Request payloads (R199) -/

/-- The bits of a flag byte outside the mask are 0, as R199 asks of the bits a layout does not name. -/
def onlyBits (flags mask : Byte) : Bool := flags &&& ~~~mask == 0

/-- The arguments of GRANT (R50). -/
structure GrantArgs where
  channel : Channel
  priority : Priority
  duty : Nat
  rate : RateArg
  leaseLength : Nat
  preempt : Bool
  wait : Bool
  allowRepack : Bool
  rampNotify : Bool
deriving DecidableEq, Repr

/-- The GRANT payload: channel, priority, duty, ramp rate, lease length, flags (R199, R52 step 2). -/
def readGrant (payload : List Byte) : Option GrantArgs :=
  match payload with
  | [ch, pr, d1, d0, r1, r0, len, fl] =>
    match channelOf ch, priorityOf pr, dutyOf d1 d0, rateOf r1 r0, onlyBits fl 0x0F with
    | some channel, some priority, some duty, some rate, true =>
      some { channel, priority, duty, rate, leaseLength := len.toNat, preempt := fl.getLsbD 0, wait := fl.getLsbD 1,
             allowRepack := fl.getLsbD 2, rampNotify := fl.getLsbD 3 }
    | _, _, _, _, _ => none
  | _ => none

/-- The arguments of ADJUST (R102). -/
structure AdjustArgs where
  handle : Nat
  target : Nat
  rate : RateArg
  allowRepack : Bool
  rampNotify : Bool
deriving DecidableEq, Repr

/-- The ADJUST payload: handle, target duty, ramp rate, flags (R199). -/
def readAdjust (payload : List Byte) : Option AdjustArgs :=
  match payload with
  | [h1, h0, d1, d0, r1, r0, fl] =>
    match handleOf h1 h0, dutyOf d1 d0, rateOf r1 r0, onlyBits fl 0x0C with
    | some handle, some target, some rate, true =>
      some { handle, target, rate, allowRepack := fl.getLsbD 2, rampNotify := fl.getLsbD 3 }
    | _, _, _, _ => none
  | _ => none

/-- The payload of RENEW, RELEASE, REVOKE and QUERY: a handle (R199). -/
def readHandle (payload : List Byte) : Option Nat :=
  match payload with
  | [h1, h0] => handleOf h1 h0
  | _ => none

/-- The notice set byte (R199). -/
def noticesOf (b : Byte) : Notices :=
  { admitted := b.getLsbD 0, shed := b.getLsbD 1, preempted := b.getLsbD 2, rampDone := b.getLsbD 3,
    closed := b.getLsbD 4 }

/-- A notice set as its byte (R199). -/
def noticesByte (n : Notices) : Nat :=
  n.admitted.toNat + 2 * n.shed.toNat + 4 * n.preempted.toNat + 8 * n.rampDone.toNat + 16 * n.closed.toNat

/-- The ACK payload: handle, notice set (R199, R123). -/
def readAck (payload : List Byte) : Option (Nat × Notices) :=
  match payload with
  | [h1, h0, ns] =>
    match handleOf h1 h0, onlyBits ns 0x1F with
    | some handle, true => some (handle, noticesOf ns)
    | _, _ => none
  | _ => none

/-- The payload of DROP_CLIENT and LIST: a client (R199). -/
def readClient (payload : List Byte) : Option Client :=
  match payload with
  | [c] => clientOf c
  | _ => none

/-- The MAP_READ payload: first segment, count 1..16 (R47). -/
def readMapRun (payload : List Byte) : Option (Segment × Nat) :=
  match payload with
  | [f, n] =>
    match segmentOf f with
    | some first => if 1 ≤ n.toNat ∧ n.toNat ≤ 16 then some (first, n.toNat) else none
    | none => none
  | _ => none

/-- The payload of CLEAR_FAULT and GET_PROFILE: a channel (R199). -/
def readChannel (payload : List Byte) : Option Channel :=
  match payload with
  | [c] => channelOf c
  | _ => none

/-- The profile record: flags, current, max duty, home segment, default ramp rate (R199), with the ranges of R178. -/
def readProfileRecord (record : List Byte) : Option Profile :=
  match record with
  | [fl, cur, m1, m0, home, ramp] =>
    match onlyBits fl 0x1F, segmentOf home with
    | true, some home =>
      if 1 ≤ cur.toNat ∧ cur.toNat ≤ Config.maxCurrent ∧ 1 ≤ read16 m1 m0 ∧ read16 m1 m0 ≤ Config.maxDuty then
        some { enabled := fl.getLsbD 0, drive := if fl.getLsbD 1 then .openDrain else .pushPull,
               polarity := if fl.getLsbD 2 then .activeLow else .activeHigh, current := cur.toNat,
               maxDuty := read16 m1 m0, home := home, pinned := fl.getLsbD 3, defaultRamp := ramp.toNat,
               readback := fl.getLsbD 4 }
      else none
    | _, _ => none
  | _ => none

/-- The SET_PROFILE payload: channel, profile record (R199). -/
def readSetProfile (payload : List Byte) : Option (Channel × Profile) :=
  match payload with
  | ch :: record =>
    match channelOf ch, readProfileRecord record with
    | some channel, some profile => some (channel, profile)
    | _, _ => none
  | [] => none

/-- One tier's peak and charge ceiling (R199), with the ranges of R180. -/
def ceilingsOf (p1 p0 c2 c1 c0 : Byte) : Option Ceilings :=
  if read16 p1 p0 ≤ Config.maxPeak ∧ read24 c2 c1 c0 ≤ Config.maxCharge then
    some ⟨read16 p1 p0, read24 c2 c1 c0⟩
  else none

/-- The SET_TIERS payload: peak and charge ceiling of TIER0, TIER1, TIER2 in turn (R199). -/
def readTiers (payload : List Byte) : Option TierTable :=
  match payload with
  | [p1, p0, c2, c1, c0, p1', p0', c2', c1', c0', p1'', p0'', c2'', c1'', c0''] =>
    match ceilingsOf p1 p0 c2 c1 c0, ceilingsOf p1' p0' c2' c1' c0', ceilingsOf p1'' p0'' c2'' c1'' c0'' with
    | some tier0, some tier1, some tier2 => some { tier0, tier1, tier2 }
    | _, _, _ => none
  | _ => none

/-- The SET_MONITOR payload (R199), with the ranges of R181. -/
def readMonitor (payload : List Byte) : Option Monitor :=
  match payload with
  | [fl, t1, t2, t3, h, nd, u1, u0, m0, m1] =>
    match onlyBits fl 0x07, tierOf m0, tierOf m1 with
    | true, some min0, some min1 =>
      if t1.toNat ≤ 63 ∧ t2.toNat < t1.toNat ∧ t3.toNat < t2.toNat ∧ 1 ≤ t3.toNat ∧ h.toNat ≤ 7 ∧
          1 ≤ nd.toNat ∧ nd.toNat ≤ 15 ∧ 1 ≤ read16 u1 u0 ∧ read16 u1 u0 ≤ 4095 then
        some { enabled := fl.getLsbD 0, t1 := t1.toNat, t2 := t2.toNat, t3 := t3.toNat, hysteresis := h.toNat,
               nDown := nd.toNat, holdOff := read16 u1 u0, limit0 := ⟨fl.getLsbD 1, min0⟩,
               limit1 := ⟨fl.getLsbD 2, min1⟩ }
      else none
    | _, _, _ => none
  | _ => none

/-- The SET_FRAME payload: D 1..64, L 0..7 (R182). -/
def readFrame (payload : List Byte) : Option (Nat × Nat) :=
  match payload with
  | [d, l] => if 1 ≤ d.toNat ∧ d.toNat ≤ 64 ∧ l.toNat ≤ 7 then some (d.toNat, l.toNat) else none
  | _ => none

/-! ## Codes in responses (R198, R200) -/

/-- The close reason as a detail and as a payload item (R198). -/
def CloseReason.code (r : CloseReason) : Nat :=
  match r with
  | .expired => 1
  | .channelFault => 2
  | .revoked => 3

/-- The grant state byte (R200); FREE is 0. -/
def GrantState.code (g : GrantState) : Nat :=
  match g with
  | .active _ _ => 1
  | .deferred => 2
  | .queued => 3
  | .closed _ => 4

/-- The profile record's bytes (R199). -/
def profileRecord (p : Profile) : List Byte :=
  put8 (p.enabled.toNat + (if p.drive = .openDrain then 2 else 0) + (if p.polarity = .activeLow then 4 else 0) +
      8 * p.pinned.toNat + 16 * p.readback.toNat) ++
    put8 p.current ++ put16 p.maxDuty ++ put8 p.home.val ++ put8 p.defaultRamp

end Sys2Proof.Machine
end

