-- ==== Sys2Proof/Machine/Ops.lean ====
section
/-! DEFINITION. The shared operations on the grant controller's records: the segment frame and the load map (chapter 2),
the slots, the two lists and the moves of a grant (chapter 1), the room test and first-fit (R40, R59), and the retry
pass (R73 to R77). -/

namespace Sys2Proof.Machine

/-- Every slot, ascending. -/
def allSlots : List SlotIx := List.finRange 32

/-- Every segment, ascending. -/
def allSegments : List Segment := List.finRange 64

/-- Every channel, ascending. -/
def allChannels : List Channel := List.finRange 16

/-! ## The segment frame (R31, R32) -/

/-- The footprint of a duty: ceil(d / 32) (R31). -/
def footprint (duty : Nat) : Nat := (duty + 31) / 32

/-- The segment n places after s, modulo 64. -/
def segmentAfter (s : Segment) (n : Nat) : Segment := ⟨(s.val + n) % 64, Nat.mod_lt _ (by decide)⟩

/-- The run of f segments from s covers k, circularly (R32). -/
def covers (s : Segment) (f : Nat) (k : Segment) : Bool := decide ((k.val + 64 - s.val) % 64 < f)

/-- The step n places after the step a, modulo 2048. -/
def stepAfter (a : StepIx) (n : Nat) : StepIx := ⟨(a.val + n) % 2048, Nat.mod_lt _ (by decide)⟩

/-- The on-window of d steps from step a covers step n, circularly (R33). -/
def windowCovers (w : Window) (n : StepIx) : Bool := decide ((n.val + 2048 - w.start.val) % 2048 < w.length)

/-! ## The load map's operations (R38) -/

/-- Each segment of the run rises by the current. -/
def raiseRun (m : Vector Nat 64) (current : Nat) (s : Segment) (f : Nat) : Vector Nat 64 :=
  Vector.ofFn fun k => m[k] + if covers s f k then current else 0

/-- Each segment of the run falls by the current. -/
def lowerRun (m : Vector Nat 64) (current : Nat) (s : Segment) (f : Nat) : Vector Nat 64 :=
  Vector.ofFn fun k => m[k] - if covers s f k then current else 0

/-- A run of f segments from s enters the load map and the total charge: the enter and grow operations (R38). -/
def Controller.enterRun (c : Controller) (current : Nat) (s : Segment) (f : Nat) : Controller :=
  { c with loadMap := raiseRun c.loadMap current s f, totalCharge := c.totalCharge + current * f }

/-- A run of f segments from s leaves the load map and the total charge: the leave and shrink operations (R38). -/
def Controller.leaveRun (c : Controller) (current : Nat) (s : Segment) (f : Nat) : Controller :=
  { c with loadMap := lowerRun c.loadMap current s f, totalCharge := c.totalCharge - current * f }

/-! ## Reading the table -/

/-- The grant in a slot, if the slot is not FREE. -/
def Controller.grantAt (c : Controller) (i : SlotIx) : Option Grant := c.table[i].grant

/-- The handle that names the slot's present occupant (R14). -/
def Controller.handleAt (c : Controller) (i : SlotIx) : Nat := handleValue i c.table[i].generation

/-- The grant a handle names; none when the handle is stale (R16). -/
def Controller.lookup (c : Controller) (handle : Nat) : Option (SlotIx × Grant) :=
  match c.grantAt (handleSlot handle) with
  | some g => if c.handleAt (handleSlot handle) = handle then some (handleSlot handle, g) else none
  | none => none

/-- ACTIVE. -/
def Grant.isActive (g : Grant) : Bool :=
  match g.state with
  | .active _ _ => true
  | _ => false

/-- CLOSED. -/
def Grant.isClosed (g : Grant) : Bool :=
  match g.state with
  | .closed _ => true
  | _ => false

/-- QUEUED. -/
def Grant.isQueued (g : Grant) : Bool := g.state == .queued

/-- DEFERRED or QUEUED: the grant waits (R19). -/
def Grant.waits (g : Grant) : Bool := g.state == .deferred || g.state == .queued

/-- ACTIVE or DEFERRED: the grant holds its channel (R12). -/
def Grant.holds (g : Grant) : Bool := g.isActive || g.state == .deferred

/-- ACTIVE, DEFERRED or QUEUED. -/
def Grant.isLiving (g : Grant) : Bool := !g.isClosed

/-- The reservation of an ACTIVE grant; 0 in every other state. -/
def Grant.room (g : Grant) : Nat :=
  match g.state with
  | .active _ r => r
  | _ => 0

/-- The footprint by which a waiting grant is tried: the larger of fp(present duty) and fp(target duty) (R75). -/
def Grant.neededFootprint (g : Grant) : Nat := max (footprint g.presentDuty) (footprint g.targetDuty)

/-- The slots whose grant meets the test, ascending. -/
def Controller.slotsWhere (c : Controller) (p : Grant → Bool) : List SlotIx :=
  allSlots.filter fun i => (c.grantAt i).any p

/-- The first slot whose grant meets the test. -/
def Controller.findSlot (c : Controller) (p : Grant → Bool) : Option SlotIx :=
  allSlots.find? fun i => (c.grantAt i).any p

/-- The holder of a channel: its grant in ACTIVE or DEFERRED, if there is one (R12). -/
def Controller.holder (c : Controller) (ch : Channel) : Option SlotIx :=
  c.findSlot fun g => g.holds && g.channel == ch

/-- The lowest-numbered FREE slot (R3). -/
def Controller.freeSlot (c : Controller) : Option SlotIx := allSlots.find? fun i => (c.grantAt i).isNone

/-- The number of non-FREE slots. -/
def Controller.occupied (c : Controller) : Nat := (c.slotsWhere fun _ => true).length

/-- A repack is in flight while the condition is PLANNING or APPLY_PENDING (R79). -/
def Controller.inFlight (c : Controller) : Bool := c.repack != .idle

/-- The repack in flight is the ADJUST of the grant in this slot (R79, R96). -/
def Controller.adjusting (c : Controller) (i : SlotIx) : Bool :=
  match c.held with
  | some h =>
    match h.kind with
    | .adjust handle _ => c.inFlight && (c.lookup handle).any fun x => x.1 == i
    | .grant .. => false
  | none => false

/-- The place of a slot in a list, 1 at the head. -/
def positionIn (l : List SlotIx) (i : SlotIx) : Option Nat :=
  match l with
  | [] => none
  | j :: rest => if j = i then some 1 else (positionIn rest i).map (· + 1)

/-! ## Writing the table -/

/-- The slot holds this grant; its generation stays. -/
def Controller.putGrant (c : Controller) (i : SlotIx) (g : Grant) : Controller :=
  { c with table := c.table.set i { c.table[i] with grant := some g } }

/-- The slot becomes FREE and its generation advances by 1 modulo 16 (R11, R15). -/
def Controller.emptySlot (c : Controller) (i : SlotIx) : Controller :=
  { c with table := c.table.set i { generation := c.table[i].generation + 1, grant := none } }

/-! ## The waiting list (R20) -/

/-- The priority of the grant in a slot; 0 for a FREE slot. -/
def Controller.priorityAt (c : Controller) (i : SlotIx) : Priority :=
  match c.grantAt i with
  | some g => g.priority
  | none => 0

/-- Directly after the last member whose priority is equal or higher; at the head if there is none (R20). -/
def insertByPriority (prio : SlotIx → Priority) (i : SlotIx) (p : Priority) : List SlotIx → List SlotIx
  | [] => [i]
  | j :: rest =>
    if (j :: rest).any (fun k => decide (p ≤ prio k)) then j :: insertByPriority prio i p rest
    else i :: j :: rest

/-- The grant in the slot enters the waiting list by the insertion rule (R20). -/
def Controller.enterWaiting (c : Controller) (i : SlotIx) : Controller :=
  { c with waiting := insertByPriority c.priorityAt i (c.priorityAt i) c.waiting }

/-! ## Moves of a grant -/

/-- The current by which a channel's grants count: its profile's (R37). -/
def currentOf (profiles : Vector Profile 16) (ch : Channel) : Nat := profiles[ch].current

/-- The grant in the slot gives up the room and the list place of its state: an ACTIVE grant's reservation leaves the map
and it leaves the admission list, a waiting grant leaves the waiting list (R38, R21, R22). -/
def Controller.detach (c : Controller) (profiles : Vector Profile 16) (i : SlotIx) : Controller :=
  match c.grantAt i with
  | none => c
  | some g =>
    match g.state with
    | .active s r =>
      let c' := c.leaveRun (currentOf profiles g.channel) s r
      { c' with admission := c'.admission.erase i }
    | .deferred => { c with waiting := c.waiting.erase i }
    | .queued => { c with waiting := c.waiting.erase i }
    | .closed _ => c

/-- The slot becomes FREE, with all that its state brings (R11). -/
def Controller.free (c : Controller) (profiles : Vector Profile 16) (i : SlotIx) : Controller :=
  (c.detach profiles i).emptySlot i

/-- The grant is retired to CLOSED with this reason and notice CLOSED (R116). -/
def Controller.retire (c : Controller) (profiles : Vector Profile 16) (i : SlotIx) (reason : CloseReason) : Controller :=
  match c.grantAt i with
  | none => c
  | some g =>
    (c.detach profiles i).putGrant i
      { g with state := .closed reason, notices := { g.notices with closed := true } }

/-- The ACTIVE grant is shed to DEFERRED with notice SHED (R145). -/
def Controller.shed (c : Controller) (profiles : Vector Profile 16) (i : SlotIx) : Controller :=
  match c.grantAt i with
  | none => c
  | some g =>
    ((c.detach profiles i).putGrant i
      { g with state := .deferred, notices := { g.notices with shed := true } }).enterWaiting i

/-- The holder is moved to QUEUED with notice PREEMPTED (R65 steps 1 to 3). -/
def Controller.preempt (c : Controller) (profiles : Vector Profile 16) (i : SlotIx) : Controller :=
  match c.grantAt i with
  | none => c
  | some g =>
    ((c.detach profiles i).putGrant i
      { g with state := .queued, notices := { g.notices with preempted := true } }).enterWaiting i

/-- The grant in the slot becomes ACTIVE at this start with this reservation: its run enters the map and it is appended to
the admission list (R22, R38). -/
def Controller.activate (c : Controller) (profiles : Vector Profile 16) (i : SlotIx) (g : Grant) (s : Segment) (f : Nat) :
    Controller :=
  let c' := (c.putGrant i { g with state := .active s f }).enterRun (currentOf profiles g.channel) s f
  { c' with admission := c'.admission ++ [i] }

/-- The reservation of an ACTIVE grant is set to f, keeping its start: grow or shrink at the tail (R38). -/
def Controller.resize (c : Controller) (profiles : Vector Profile 16) (i : SlotIx) (f : Nat) : Controller :=
  match c.grantAt i with
  | some g =>
    match g.state with
    | .active s r =>
      let c' := c.putGrant i { g with state := .active s f }
      if r ≤ f then c'.enterRun (currentOf profiles g.channel) (segmentAfter s r) (f - r)
      else c'.leaveRun (currentOf profiles g.channel) (segmentAfter s f) (r - f)
    | _ => c
  | none => c

/-! ## Room and placement (R40, R59 to R61) -/

/-- The room test: every covered entry has room for the current, and the charge stays within its ceiling (R40). -/
def fits (m : Vector Nat 64) (totalCharge peak charge current : Nat) (s : Segment) (f : Nat) : Bool :=
  allSegments.all (fun k => !covers s f k || decide (m[k] + current ≤ peak)) &&
    decide (totalCharge + current * f ≤ charge)

/-- The start segments tried, in order: from home circularly, or home alone for a pinned channel (R59, R60). -/
def candidates (home : Segment) (pinned : Bool) : List Segment :=
  if pinned then [home] else (List.range 64).map (segmentAfter home)

/-- First-fit: the first candidate that fits (R59). -/
def firstFit (m : Vector Nat 64) (totalCharge peak charge current : Nat) (home : Segment) (pinned : Bool) (f : Nat) :
    Option Segment :=
  (candidates home pinned).find? fun s => fits m totalCharge peak charge current s f

/-- First-fit for a channel against the load map and the ceilings in force. -/
def Controller.place (c : Controller) (profiles : Vector Profile 16) (ch : Channel) (f : Nat) : Option Segment :=
  firstFit c.loadMap c.totalCharge c.peakInForce c.chargeInForce (currentOf profiles ch) profiles[ch].home
    profiles[ch].pinned f

/-- The tier in force is TIER3, at which nothing is placed (R62, R77). -/
def Controller.atTier3 (c : Controller) : Bool := c.tierInForce == 3

/-- A place for a grant, or none at TIER3 whatever the footprint (R64, R77). -/
def Controller.placeUnlessTier3 (c : Controller) (profiles : Vector Profile 16) (ch : Channel) (f : Nat) :
    Option Segment :=
  if c.atTier3 then none else c.place profiles ch f

/-! ## The retry pass (R73 to R77) -/

/-- At its visit a DEFERRED grant is eligible, and a QUEUED grant whose channel has no holder (R74). -/
def Controller.eligible (c : Controller) (g : Grant) : Bool :=
  g.state == .deferred || (g.isQueued && (c.holder g.channel).isNone)

/-- An eligible grant that fits becomes ACTIVE with notice ADMITTED (R75). -/
def Controller.admitGrant (c : Controller) (profiles : Vector Profile 16) (i : SlotIx) (g : Grant) (s : Segment) : Controller :=
  (c.detach profiles i).activate profiles i { g with notices := { g.notices with admitted := true } } s g.neededFootprint

/-- An eligible grant that does not fit is or becomes DEFERRED, at its place in the list (R76). -/
def Controller.promote (c : Controller) (i : SlotIx) (g : Grant) : Controller :=
  c.putGrant i { g with state := .deferred }

/-- One visit of the retry pass (R74 to R77). -/
def Controller.visit (profiles : Vector Profile 16) (c : Controller) (i : SlotIx) : Controller :=
  match c.grantAt i with
  | none => c
  | some g =>
    if c.eligible g then
      match c.placeUnlessTier3 profiles g.channel g.neededFootprint with
      | some s => c.admitGrant profiles i g s
      | none => c.promote i g
    else c

/-- The retry pass: one walk of the waiting list as it stands at the start (R73). -/
def Controller.retryPass (c : Controller) (profiles : Vector Profile 16) : Controller :=
  c.waiting.foldl (Controller.visit profiles) c

/-- The retry pass of an event that is a trigger; none while a repack is in flight (R71, R72). -/
def Controller.passIf (c : Controller) (profiles : Vector Profile 16) (trigger : Bool) : Controller :=
  if trigger && !c.inFlight then c.retryPass profiles else c

/-! ## The ceilings in force (R42) -/

/-- The ceilings of a tier: the tier table's, and 0 and 0 at TIER3. -/
def tierCeilings (t : TierTable) (tier : Tier) : Ceilings :=
  match tier with
  | 0 => t.tier0
  | 1 => t.tier1
  | 2 => t.tier2
  | 3 => ⟨0, 0⟩

/-- The tier in force becomes this tier and its ceilings are loaded (R42, R43, R44). -/
def Controller.loadTier (c : Controller) (t : TierTable) (tier : Tier) : Controller :=
  { c with tierInForce := tier, peakInForce := (tierCeilings t tier).peak,
           chargeInForce := (tierCeilings t tier).charge }

/-! ## The map from its definition (R35, R36) -/

/-- What one slot's grant puts into a segment: its channel's current, if it is ACTIVE and covers the segment. -/
def Controller.loadFrom (c : Controller) (profiles : Vector Profile 16) (k : Segment) (i : SlotIx) : Nat :=
  match c.grantAt i with
  | some g =>
    match g.state with
    | .active s r => if covers s r k then currentOf profiles g.channel else 0
    | _ => 0
  | none => 0

/-- What one slot's grant puts into the total charge: current × reservation, if it is ACTIVE. -/
def Controller.chargeFrom (c : Controller) (profiles : Vector Profile 16) (i : SlotIx) : Nat :=
  match c.grantAt i with
  | some g => currentOf profiles g.channel * g.room
  | none => 0

/-- The load map and the total charge rebuilt from the reservations of all ACTIVE grants (R39). -/
def Controller.rebuild (c : Controller) (profiles : Vector Profile 16) : Controller :=
  { c with loadMap := Vector.ofFn fun k => (allSlots.map (c.loadFrom profiles k)).sum,
           totalCharge := (allSlots.map (c.chargeFrom profiles)).sum }

/-- The number of ACTIVE grants whose reservations cover a segment (R48). -/
def Controller.coverCount (c : Controller) (k : Segment) : Nat :=
  (c.slotsWhere fun g => match g.state with | .active s r => covers s r k | _ => false).length

/-! ## The frame boundary (R152, R153, R184) -/

/-- The frame count when what is due at the present boundary has advanced it (R152). -/
def FrameTimer.reached (t : FrameTimer) : Fin 65536 := if t.countDue then t.frameCount + 1 else t.frameCount

/-- The events of the boundary that brings the frame count to this value: a frame start for each of its takers, and a lease tick
if the count is a whole multiple of 2^L (R152, R153). -/
def State.raiseFrameStart (s : State) (count : Fin 65536) : State :=
  { s with events := { s.events with
      engineFrames := s.events.engineFrames + 1, supplyFrames := s.events.supplyFrames + 1,
      controllerFrames := s.events.controllerFrames + 1,
      leaseTicks := s.events.leaseTicks + if count.val % 2 ^ s.config.leaseExponent = 0 then 1 else 0 } }

/-- The step counter passes from 2047 to 0: the frame count advances, and the frame start and the lease tick are raised (R152,
R153). -/
def State.frameBoundary (s : State) : State :=
  let count := s.timer.reached + 1
  { s.raiseFrameStart count with timer := { step := 0, frameCount := count } }

/-- The same boundary, met first by a block that takes its frame start: the frame count, the frame timer's own item, still shows
the old value, and advances before another step passes (R184; DESIGN CHOICE, notes/assumptions/25.md). -/
def State.frameBoundaryCountDue (s : State) : State :=
  { s.raiseFrameStart (s.timer.reached + 1) with
    timer := { step := 0, frameCount := s.timer.reached, countDue := true } }

/-- A taker of frame starts for which none waits comes to the boundary at the end of step 2047, if the timer stands there (R184,
notes/assumptions/25.md). -/
def State.meetFrameStart (s : State) (waiting : Nat) : State :=
  if waiting = 0 ∧ s.timer.step = 2047 ∧ s.inReset = false then s.frameBoundaryCountDue else s

end Sys2Proof.Machine
end

