-- ==== Sys2Proof/Machine/Flags.lean ====
section
/-! DEFINITION. The flags the outside sees: notice sets, notice summaries and ALERT lines (R24, R25, R196), link verdict
and port state codes (R197), and the levels of the channel pins (R159, R160). -/

namespace Sys2Proof.Machine

/-! ## Ports -/

/-- One of the two ports. -/
def State.port (s : State) (p : Port) : PortUnit :=
  match p with
  | .a => s.portA
  | .b => s.portB

/-- The same state with one port replaced. -/
def State.setPort (s : State) (p : Port) (u : PortUnit) : State :=
  match p with
  | .a => { s with portA := u }
  | .b => { s with portB := u }

/-- The other port. -/
def otherPort (p : Port) : Port :=
  match p with
  | .a => .b
  | .b => .a

/-- The port a client belongs to (section 0.3). -/
def clientPort (c : Client) : Port := if c.val < 4 then .a else .b

/-! ## Notices (R23, R24) -/

/-- Some notice is in the set. -/
def Notices.pending (n : Notices) : Bool := n.admitted || n.shed || n.preempted || n.rampDone || n.closed

/-- The set without the named notices (R24). -/
def Notices.without (n named : Notices) : Notices :=
  { admitted := n.admitted && !named.admitted, shed := n.shed && !named.shed,
    preempted := n.preempted && !named.preempted, rampDone := n.rampDone && !named.rampDone,
    closed := n.closed && !named.closed }

/-- Some non-FREE grant of the port's clients has a non-empty notice set (R25). -/
def Controller.noticePending (c : Controller) (p : Port) : Bool :=
  allSlots.any fun i => (c.grantAt i).any fun g => clientPort g.owner == p && g.notices.pending

/-- The notice summaries are brought up to date and the ALERT lines follow within the same event (R25, R196). -/
def State.refreshAlerts (s : State) : State :=
  let a := s.ctl.noticePending .a
  let b := s.ctl.noticePending .b
  { s with ctl := { s.ctl with summaryA := a, summaryB := b }, portA := { s.portA with alertLow := a },
           portB := { s.portB with alertLow := b } }

/-! ## Codes of the port state byte and the verdict byte (R197) -/

/-- The link verdict's code; 0 for none. -/
def verdictCode (v : Option Verdict) : Nat :=
  match v with
  | none => 0
  | some .accepted => 1
  | some .busy => 2
  | some .checkFail => 3
  | some .frameError => 4

/-- The port state's code. -/
def PortState.code (p : PortState) : Nat :=
  match p with
  | .idle => 0
  | .inFlight => 1
  | .ready => 2

/-- The port state byte: 1 and 0, notice summary, last link verdict, port state (R197). -/
def PortUnit.stateByte (u : PortUnit) : Byte :=
  BitVec.ofNat 8 (0x80 + 0x20 * u.alertLow.toNat + 4 * verdictCode u.verdict + u.state.code)

/-- The verdict byte of a Port A REQUEST (R197). -/
def verdictByte (v : Verdict) : Byte := BitVec.ofNat 8 (0x80 + verdictCode (some v))

/-! ## Channel pins (R159, R160) -/

/-- What the output engine does with a channel pin (R160). -/
inductive PinDrive where
  | high
  | low
  | released
deriving DecidableEq, Repr

/-- The drive of a pin at its active or its inactive level (R160). -/
def pinDriveOf (p : Profile) (active : Bool) : PinDrive :=
  match p.drive, p.polarity, active with
  | .pushPull, .activeHigh, true => .high
  | .pushPull, .activeHigh, false => .low
  | .pushPull, .activeLow, true => .low
  | .pushPull, .activeLow, false => .high
  | .openDrain, .activeHigh, true => .released
  | .openDrain, .activeHigh, false => .low
  | .openDrain, .activeLow, true => .low
  | .openDrain, .activeLow, false => .released

/-- The commanded logic level, true for high (R160). -/
def commandedHigh (p : Profile) (active : Bool) : Bool :=
  match p.polarity with
  | .activeHigh => active
  | .activeLow => !active

/-- The channel is commanded to its active level at the present step (R159). -/
def State.channelActive (s : State) (ch : Channel) : Bool :=
  !s.inReset && s.engine[ch].window.any fun w => windowCovers w s.timer.step

/-- What the output engine does with the channel's pin at the present step: every pin is driven low while RESET_N is low
(R185), and otherwise follows the live image and the profile as it stands (R160). -/
def State.pin (s : State) (ch : Channel) : PinDrive :=
  if s.inReset then .low else pinDriveOf s.config.profiles[ch] (s.channelActive ch)

end Sys2Proof.Machine
end

