-- ==== Sys2Proof/Machine/Layout.lean ====
section
/-! DEFINITION. The check byte (R188), the response frame (R197, R198) and the layouts of the response payloads (R200). -/

namespace Sys2Proof.Machine

/-! ## The check byte (R188) -/

/-- Shift left n times, with 0x07 after each shift that shifts out a 1. -/
def crcShift : Nat → Byte → Byte
  | 0, r => r
  | n + 1, r => crcShift n (if r.getLsbD 7 then (r <<< 1) ^^^ 0x07 else r <<< 1)

/-- The CRC-8 of a frame's bytes with generator x^8 + x^2 + x + 1, the register starting at all ones (R188). -/
def checkByte (bytes : List Byte) : Byte := bytes.foldl (fun r b => crcShift 8 (r ^^^ b)) 0xFF

/-! ## The response frame -/

/-- The result code (R198). -/
def Result.code (r : Result) : Nat :=
  match r with
  | .ok => 0x00
  | .okListed _ => 0x00
  | .queued => 0x01
  | .deferred => 0x02
  | .retry => 0x03
  | .noRoom _ => 0x10
  | .noSlot => 0x11
  | .channelHeld => 0x12
  | .duplicate => 0x13
  | .overLimit => 0x14
  | .channelOff => 0x15
  | .channelFault => 0x16
  | .stale => 0x20
  | .closed _ => 0x21
  | .notOwner => 0x22
  | .notPermitted => 0x23
  | .badClient => 0x30
  | .badArg => 0x31
  | .badConfigNoChannel => 0x32
  | .badConfigTiers => 0x32
  | .wrongMode => 0x33
  | .unknownRequest => 0x34

/-- The detail of NO_ROOM (R198). -/
def NoRoom.code (d : NoRoom) : Nat :=
  match d with
  | .firstFit => 1
  | .repackFailed => 2
  | .repackAbandoned => 3
  | .tier3 => 4

/-- The detail (R198); 0 where none. -/
def Result.detail (r : Result) : Nat :=
  match r with
  | .okListed n => n
  | .noRoom d => d.code
  | .closed reason => reason.code
  | .badConfigNoChannel => 1
  | .badConfigTiers => 2
  | _ => 0

/-- The response frame from the length byte to the last payload byte (R197). -/
def Response.body (r : Response) : List Byte :=
  BitVec.ofNat 8 (4 + r.payload.length) :: r.client :: r.code :: BitVec.ofNat 8 r.result.code ::
    BitVec.ofNat 8 r.result.detail :: r.payload

/-- The response frame with its check byte (R188, R197). -/
def Response.frame (r : Response) : List Byte := r.body ++ [checkByte r.body]

/-! ## Response payloads (R200) -/

/-- The start segment of an ACTIVE grant. -/
def Grant.start? (g : Grant) : Option Nat :=
  match g.state with
  | .active s _ => some s.val
  | _ => none

/-- The reservation of an ACTIVE grant. -/
def Grant.reservation? (g : Grant) : Option Nat :=
  match g.state with
  | .active _ r => some r
  | _ => none

/-- The close reason of a CLOSED grant. -/
def Grant.closeReason? (g : Grant) : Option CloseReason :=
  match g.state with
  | .closed r => some r
  | _ => none

/-- The holder item: for a QUEUED grant whose channel has a holder, that holder's handle (R27, R55). -/
def Controller.holderItem (c : Controller) (g : Grant) : Option Nat :=
  if g.isQueued then (c.holder g.channel).map c.handleAt else none

/-- The waiting position item: for a DEFERRED or QUEUED grant, its place in the waiting list (R27). -/
def Controller.waitingItem (c : Controller) (i : SlotIx) (g : Grant) : Option Nat :=
  if g.waits then positionIn c.waiting i else none

/-- The admission position item: for an ACTIVE grant, its place in the admission list (R27). -/
def Controller.admissionItem (c : Controller) (i : SlotIx) (g : Grant) : Option Nat :=
  if g.isActive then positionIn c.admission i else none

/-- GRANT answered OK, DEFERRED or QUEUED: handle, state, start segment, reservation, waiting position, holder. -/
def grantPayload (c : Controller) (i : SlotIx) (g : Grant) : List Byte :=
  put16 (c.handleAt i) ++ put8 g.state.code ++ put8? g.start? ++ put8? g.reservation? ++
    put8? (c.waitingItem i g) ++ put16? (c.holderItem g)

/-- GRANT answered CHANNEL_HELD: holder's handle, holder's priority. -/
def heldPayload (c : Controller) (holder : SlotIx) : List Byte :=
  put16 (c.handleAt holder) ++ put8 (c.priorityAt holder).val

/-- ADJUST answered OK (R106). -/
def adjustPayload (c : Controller) (i : SlotIx) (g : Grant) : List Byte :=
  put16 (c.handleAt i) ++ put8 g.state.code ++ put16 g.targetDuty ++ put16 g.presentDuty ++ put8 g.rampRate ++
    putBool g.rampNotify ++ put8? g.start? ++ put8? g.reservation?

/-- RENEW answered OK (R119). -/
def renewPayload (handle : Nat) (g : Grant) : List Byte :=
  put16 handle ++ put8 g.state.code ++ put8 g.leaseLength ++ put8? g.leaseRemaining

/-- The presence byte of QUERY (R200). -/
def presenceByte (c : Controller) (i : SlotIx) (g : Grant) : Nat :=
  g.start?.isSome.toNat + 2 * g.reservation?.isSome.toNat + 4 * g.leaseRemaining.isSome.toNat +
    8 * g.closeReason?.isSome.toNat + 16 * (c.waitingItem i g).isSome.toNat +
    32 * (c.admissionItem i g).isSome.toNat + 64 * (c.holderItem g).isSome.toNat

/-- QUERY answered OK (R27). -/
def queryPayload (c : Controller) (i : SlotIx) (g : Grant) : List Byte :=
  put16 (c.handleAt i) ++ put8 (presenceByte c i g) ++ put8 g.state.code ++ put8 g.owner.val ++ put8 g.channel.val ++
    put8 g.priority.val ++ put16 g.targetDuty ++ put16 g.presentDuty ++ put8 g.rampRate ++ putBool g.rampNotify ++
    put8? g.start? ++ put8? g.reservation? ++ put8 g.leaseLength ++ put8? g.leaseRemaining ++
    put8 (noticesByte g.notices) ++ put8? (g.closeReason?.map CloseReason.code) ++ put8? (c.waitingItem i g) ++
    put8? (c.admissionItem i g) ++ put16? (c.holderItem g)

/-- One LIST entry: bits 15..7 handle, bits 6..4 state, bit 3 notices pending (R200). -/
def listEntry (c : Controller) (i : SlotIx) : List Byte :=
  match c.grantAt i with
  | some g => put16 (c.handleAt i * 128 + g.state.code * 16 + 8 * g.notices.pending.toNat)
  | none => []

/-- The slots whose grant the client owns, ascending (R29). -/
def Controller.ownedSlots (c : Controller) (client : Client) : List SlotIx := c.slotsWhere fun g => g.owner == client

/-- LIST answered OK (R29). -/
def listPayload (c : Controller) (client : Client) : List Byte := (c.ownedSlots client).flatMap (listEntry c)

/-- MAP_READ answered OK (R48, R200). The byte of the item repack in flight is 1 for yes and 0 for no, a code R200 does not give
(DEDUCED, notes/assumptions/24.md). -/
def mapPayload (c : Controller) (first : Segment) (count : Nat) : List Byte :=
  put8 first.val ++ put8 count ++ put8 c.tierInForce.val ++ put16 c.peakInForce ++ put24 c.chargeInForce ++
    put24 c.totalCharge ++ putBool c.inFlight ++
    (List.range count).flatMap fun n =>
      put16 c.loadMap[segmentAfter first n] ++ put8 (c.coverCount (segmentAfter first n))

/-- The slots in each state: FREE, ACTIVE, DEFERRED, QUEUED, CLOSED (R183). -/
def slotCounts (c : Controller) : List Nat :=
  [32 - c.occupied, (c.slotsWhere Grant.isActive).length, (c.slotsWhere fun g => g.state == .deferred).length,
    (c.slotsWhere Grant.isQueued).length, (c.slotsWhere Grant.isClosed).length]

/-- A channel's byte in STATUS: bit 7 FAULTED, bits 1..0 mismatch count (R200). -/
def channelByte (u : ChannelUnit) : Nat := (if u.fault = .faulted then 0x80 else 0) + u.mismatches

/-- STATUS answered OK (R183, R200), each item as its owner holds it when the request is taken (R184). The byte of the item
monitor enabled is 1 for yes and 0 for no, a code R200 does not give (DEDUCED, notes/assumptions/24.md). -/
def statusPayload (s : State) : List Byte :=
  put8 (if s.config.mode = .run then 1 else 0) ++ put8 s.config.divider ++ put8 s.config.leaseExponent ++
    put16 s.timer.frameCount.val ++ (slotCounts s.ctl).flatMap put8 ++ putBool s.config.monitor.enabled ++
    put8 s.supply.supplyTier.val ++ put8 s.supply.band.val ++
    put8 (s.supply.limit0.asserted.toNat + 2 * s.supply.limit1.asserted.toNat) ++ put8 s.supply.effective.val ++
    put8 s.supply.down ++ put16 s.supply.up ++ allChannels.flatMap fun ch => put8 (channelByte s.engine[ch])

end Sys2Proof.Machine
end

