-- ==== Sys2Proof/Machine/Ports.lean ====
section
/-! DEFINITION. The request ports, the request arbiter and the common checks (chapter 10), with the meanings of the five
transaction rows and of UNKNOWN_REQUEST. A transaction is one event (notes/assumptions/6.md). -/

namespace Sys2Proof.Machine

/-! ## Judging a request frame (R187, R188) -/

/-- What the bytes of a frame are, before the port state is looked at. -/
inductive FrameForm where
  | malformed
  | badCheck
  | sound (request : Request)
deriving DecidableEq, Repr

/-- A length byte of 2..26 (R187). -/
def lengthByteOk (len : Byte) : Bool := decide (2 ≤ len.toNat ∧ len.toNat ≤ 26)

/-- The form of a frame from its length byte on. `exact` asks that no byte follow the check byte (Port B). -/
def frameForm (exact : Bool) (bytes : List Byte) : FrameForm :=
  match bytes with
  | len :: client :: code :: rest =>
    let size := len.toNat - 2
    if lengthByteOk len && decide (size + 1 ≤ rest.length) && (!exact || decide (rest.length = size + 1)) then
      if checkByte (len :: client :: code :: rest.take size) = rest.getD size 0 then
        .sound ⟨client, code, rest.take size⟩
      else .badCheck
    else .malformed
  | _ => .malformed

/-- The verdict: the first of FRAME_ERROR, CHECK_FAIL, BUSY, ACCEPTED that applies (R187). -/
def judge (u : PortUnit) (f : FrameForm) : Verdict :=
  match f with
  | .malformed => .frameError
  | .badCheck => .checkFail
  | .sound _ => if u.state = .inFlight then .busy else .accepted

/-- The judged frame at the port: the verdict is kept, and an accepted request is held, marked waiting, an unread
response being discarded (R186, R187). -/
def PortUnit.takeFrame (u : PortUnit) (f : FrameForm) : PortUnit :=
  match judge u f, f with
  | .accepted, .sound r =>
    { u with state := .inFlight, request := some ⟨r, .waiting⟩, response := none, verdict := some .accepted }
  | v, _ => { u with verdict := some v }

/-! ## The bytes a read sends (R190, R192) -/

/-- The bytes the part has to send: the port state byte, then the held response if the port is READY. -/
def PortUnit.readBytes (u : PortUnit) : List Byte :=
  match u.state, u.response with
  | .ready, some r => u.stateByte :: r.frame
  | _, _ => [u.stateByte]

/-- The bytes of a read of n bytes: 0xFF after what the part has to send. -/
def PortUnit.sent (u : PortUnit) (n : Nat) : List Byte := (List.range n).map fun i => u.readBytes.getD i 0xFF

/-- The port after a read of n bytes: a response whose check byte has been sent is delivered (R186). -/
def PortUnit.afterRead (u : PortUnit) (n : Nat) : PortUnit :=
  match u.state, u.response with
  | .ready, some _ => if u.readBytes.length ≤ n then { u with state := .idle, response := none } else u
  | _, _ => u

/-! ## Port A (R189, R190) -/

/-- The place, counted from the length byte, of the byte during which the verdict byte is returned (R189). -/
def verdictPlace (mosi : List Byte) : Nat :=
  match mosi with
  | [] => 1
  | len :: _ => if lengthByteOk len then len.toNat + 2 else 1

/-- The MISO bytes of a REQUEST transaction: 0xFF but for the verdict byte, which a frame cut short does not get. -/
def misoOfRequest (v : Verdict) (mosi : List Byte) : List Byte :=
  0xFF :: (List.range mosi.length).map fun i => if i = verdictPlace mosi then verdictByte v else 0xFF

/-- A transaction that was on the wire when the reset ended is ignored to its end (R186). -/
def PortUnit.ignoreOne (u : PortUnit) (wire : WireRecord) : PortUnit := { u with ignoring := false, wire := wire }

/-- A REQUEST transaction at Port A (R189). -/
def spiRequest (u : PortUnit) (mosi : List Byte) : PortUnit :=
  let f := frameForm false mosi
  { u.takeFrame f with wire := ⟨[], misoOfRequest (judge u f) mosi⟩ }

/-- REQUEST_TRANSACTION (R189). -/
def execRequestTransaction (mosi : List Byte) (s : State) : Host.Outcome State Fault Refusal :=
  if s.inReset then .next s
  else if s.portA.ignoring then
    .next { s with portA := s.portA.ignoreOne ⟨[], List.replicate (mosi.length + 1) 0xFF⟩ }
  else .next { s with portA := spiRequest s.portA mosi }

/-- READ_TRANSACTION (R190). -/
def execReadTransaction (clocked : Nat) (s : State) : Host.Outcome State Fault Refusal :=
  if s.inReset then .next s
  else if s.portA.ignoring then
    .next { s with portA := s.portA.ignoreOne ⟨[], List.replicate (clocked + 1) 0xFF⟩ }
  else .next { s with portA := { s.portA.afterRead clocked with wire := ⟨[], 0xFF :: s.portA.sent clocked⟩ } }

/-- UNKNOWN_TRANSACTION_KIND (R190): FRAME_ERROR, and nothing else but the 0xFF bytes. A kind that is REQUEST or READ is no
such transaction. -/
def execUnknownTransactionKind (kind : Byte) (clocked : Nat) (s : State) : Host.Outcome State Fault Refusal :=
  if s.inReset || kind == Config.kindRequest || kind == Config.kindRead then .next s
  else if s.portA.ignoring then
    .next { s with portA := s.portA.ignoreOne ⟨[], List.replicate (clocked + 1) 0xFF⟩ }
  else
    .next { s with portA := { s.portA with verdict := some .frameError,
                                           wire := ⟨[], List.replicate (clocked + 1) 0xFF⟩ } }

/-! ## Port B (R191, R192) -/

/-- The acknowledge bits of a write's bytes (R191). -/
def writeAcks (u : PortUnit) (bytes : List Byte) : List Bool :=
  match bytes with
  | [] => []
  | len :: _ =>
    (List.range bytes.length).map fun i =>
      decide (u.state ≠ .inFlight) && lengthByteOk len && decide (i < len.toNat + 2)

/-- The port after a write's bytes: no byte, no frame; BUSY at the length byte while IN_FLIGHT; otherwise judged at the
STOP (R191). -/
def i2cWrite (u : PortUnit) (bytes : List Byte) : PortUnit :=
  if bytes = [] then u
  else if u.state = .inFlight then { u with verdict := some .busy }
  else u.takeFrame (frameForm true bytes)

/-- I2C_WRITE_TRANSACTION (R191). -/
def execI2cWriteTransaction (address : BitVec 7) (bytes : List Byte) (s : State) : Host.Outcome State Fault Refusal :=
  if s.inReset then .next s
  else if s.portB.ignoring then .next { s with portB := s.portB.ignoreOne ⟨[], []⟩ }
  else if address ≠ s.addressB then .next { s with portB := { s.portB with wire := ⟨[false], []⟩ } }
  else
    .next { s with portB := { i2cWrite s.portB bytes with wire := ⟨true :: writeAcks s.portB bytes, []⟩ } }

/-- I2C_READ_TRANSACTION (R192). -/
def execI2cReadTransaction (address : BitVec 7) (clocked : Nat) (s : State) : Host.Outcome State Fault Refusal :=
  if s.inReset then .next s
  else if s.portB.ignoring then .next { s with portB := s.portB.ignoreOne ⟨[], []⟩ }
  else if address ≠ s.addressB then .next { s with portB := { s.portB with wire := ⟨[false], []⟩ } }
  else .next { s with portB := { s.portB.afterRead clocked with wire := ⟨[true], s.portB.sent clocked⟩ } }

/-! ## The request arbiter (R193) -/

/-- The port's request waits for the arbiter. -/
def PortUnit.requestWaits (u : PortUnit) : Bool := u.request.any fun h => h.mark == .waiting

/-- The port whose request the arbiter takes next: the only waiting one, or the preferred port's (R193). -/
def State.arbiterChoice (s : State) : Option Port :=
  match s.portA.requestWaits, s.portB.requestWaits with
  | true, true => some s.preferred
  | true, false => some .a
  | false, true => some .b
  | false, false => none

/-- The arbiter's next take is this request from this port. No request is taken while RESET_N is low (R185). -/
def State.takes (s : State) (p : Port) (r : Request) : Bool :=
  !s.inReset && s.arbiterChoice == some p && (s.port p).request == some ⟨r, .waiting⟩

/-- The request is marked taken, and the other port becomes the preferred one (R193). -/
def State.markTaken (s : State) (p : Port) (r : Request) : State :=
  { s.setPort p { s.port p with request := some ⟨r, .taken⟩ } with preferred := otherPort p }

/-! ## Responses (R195) -/

/-- The request being answered: its port, its client, and the client byte and code to echo. -/
structure Taken where
  port : Port
  who : Client
  client : Byte
  code : Byte
deriving DecidableEq, Repr

/-- A response is written: the port becomes READY and the request holder is emptied (R186, R195). -/
def State.writeResponse (s : State) (p : Port) (r : Response) : State :=
  s.setPort p { s.port p with state := .ready, request := none, response := some r }

/-- The request is answered with this result and payload. -/
def answer (t : Taken) (r : Result) (payload : List Byte) (s : State) : State :=
  s.writeResponse t.port { client := t.client, code := t.code, result := r, payload := payload }

/-! ## The common checks (R194, R198) -/

/-- One row of the request table (R198). -/
structure RequestRow where
  code : Byte
  size : Nat
  supervisorOnly : Bool
deriving DecidableEq, Repr

/-- The request table: code, payload bytes, supervisor only (R198). -/
def requestTable : List RequestRow :=
  [⟨0x01, 8, false⟩, ⟨0x02, 7, false⟩, ⟨0x03, 2, false⟩, ⟨0x04, 2, false⟩, ⟨0x05, 3, false⟩, ⟨0x06, 2, true⟩,
   ⟨0x07, 1, false⟩, ⟨0x10, 2, false⟩, ⟨0x11, 1, false⟩, ⟨0x12, 2, false⟩, ⟨0x18, 1, true⟩, ⟨0x13, 0, false⟩,
   ⟨0x14, 1, false⟩, ⟨0x20, 7, true⟩, ⟨0x21, 15, true⟩, ⟨0x22, 10, true⟩, ⟨0x23, 2, true⟩, ⟨0x28, 0, true⟩,
   ⟨0x29, 0, true⟩, ⟨0x2A, 0, true⟩]

/-- Check 1: the client byte names a client of the receiving port. -/
def clientOnPort (p : Port) (client : Byte) : Option Client :=
  match clientOf client with
  | some c => if clientPort c = p then some c else none
  | none => none

/-- Checks 2 to 4: request code, privilege, payload size; none when all pass. -/
def requestRefusal (who : Client) (code : Byte) (payload : List Byte) : Option Result :=
  match requestTable.find? fun row => row.code == code with
  | none => some .unknownRequest
  | some row =>
    if row.supervisorOnly && who != 0 then some .notPermitted
    else if payload.length ≠ row.size then some .badArg
    else none

/-- The arbiter takes a request and the block it belongs to judges it: the common checks first, then the request's own
rule. Where the arbiter's next take is not this request, nothing is taken (notes/assumptions/3.md). -/
def runRequest (p : Port) (client code : Byte) (payload : List Byte) (body : Taken → State → State) (s : State) : State :=
  if s.takes p ⟨client, code, payload⟩ then
    let s' := s.markTaken p ⟨client, code, payload⟩
    match clientOnPort p client with
    | none => answer ⟨p, 0, client, code⟩ .badClient [] s'
    | some who =>
      match requestRefusal who code payload with
      | some r => answer ⟨p, who, client, code⟩ r [] s'
      | none => body ⟨p, who, client, code⟩ s'
  else s

/-- UNKNOWN_REQUEST (R194): a code outside the table is answered by the common checks and has no rule of its own. A code of
the table is another row's request. -/
def execUnknownRequest (p : Port) (client code : Byte) (payload : List Byte) (s : State) :
    Host.Outcome State Fault Refusal :=
  if knownCodes.contains code then .next s
  else .next (runRequest p client code payload (fun t => answer t .unknownRequest []) s)

end Sys2Proof.Machine
end

