-- ==== Sys2Proof/Machine/Repack.lean ====
section
/-! DEFINITION. Repacking (chapter 4): the precondition, the start, the planner, the abandonment, the end of an event with
its retry pass, and the meanings of PLAN_COMPLETE, PLAN_FAILED and REPACK_APPLY. -/

namespace Sys2Proof.Machine

/-! ## Ends of events -/

/-- The grant controller of a state is replaced. -/
def State.withCtl (s : State) (c : Controller) : State := { s with ctl := c }

/-- The end of a grant controller event: its retry pass if the event is a trigger and no repack is in flight (R71, R72), and
the notice summaries brought up to date (R25). -/
def State.settle (s : State) (trigger : Bool) : State :=
  (s.withCtl (s.ctl.passIf s.config.profiles trigger)).refreshAlerts

/-! ## The planner (R82 to R84) -/

/-- The input set's entry of an ACTIVE grant, with this footprint (R81). -/
def planEntryOf (profiles : Vector Profile 16) (slot : Option SlotIx) (ch : Channel) (priority : Priority) (f : Nat) :
    PlanEntry :=
  { slot := slot, channel := ch, current := currentOf profiles ch, home := profiles[ch].home,
    pinned := profiles[ch].pinned, priority := priority, footprint := f }

/-- The entries of the ACTIVE grants, ascending by slot; the adjusted grant of an ADJUST has its needed footprint (R81). -/
def activeEntries (c : Controller) (profiles : Vector Profile 16) (adjusted : Option (SlotIx × Nat)) : List PlanEntry :=
  allSlots.filterMap fun i =>
    match c.grantAt i with
    | some g =>
      if g.isActive then
        let f := match adjusted with
          | some (j, need) => if j = i then need else g.room
          | none => g.room
        some (planEntryOf profiles (some i) g.channel g.priority f)
      else none
    | none => none

/-- The place of an entry among equals: its slot, the requested grant after every slot (R83). -/
def PlanEntry.rank (e : PlanEntry) : Nat :=
  match e.slot with
  | some i => i.val
  | none => 32

/-- The order in which entries are placed (R83): pinned channels first, by channel; then by footprint, current and priority
descending, then by slot ascending. -/
def planBefore (a b : PlanEntry) : Bool :=
  if a.pinned != b.pinned then a.pinned
  else if a.pinned then decide (a.channel.val ≤ b.channel.val)
  else if a.footprint ≠ b.footprint then decide (b.footprint < a.footprint)
  else if a.current ≠ b.current then decide (b.current < a.current)
  else if a.priority ≠ b.priority then decide (b.priority < a.priority)
  else decide (a.rank ≤ b.rank)

/-- The input set in the order of R83. -/
def planOrder (input : List PlanEntry) : List PlanEntry := input.insertionSort fun a b => planBefore a b = true

/-- Each entry in turn is placed by first-fit against the working map, the working charge and the copied ceilings; an entry
that fits nowhere ends the work, and the plan is dropped (R84). -/
def buildPlan (p : Planner) (placed : List Proposal) : List PlanEntry → Planner
  | [] => { p with plan := some placed }
  | e :: rest =>
    match firstFit p.workMap p.workCharge p.peak p.charge e.current e.home e.pinned e.footprint with
    | some s =>
      buildPlan { p with workMap := raiseRun p.workMap e.current s e.footprint,
                         workCharge := p.workCharge + e.current * e.footprint } (placed ++ [⟨e, s⟩]) rest
    | none => { p with plan := none }

/-- The planner takes an input set: it clears its working map and charge and builds the plan (R82). -/
def takeInput (serial : Byte) (input : List PlanEntry) (peak charge : Nat) : Planner :=
  buildPlan { serial := serial, input := input, peak := peak, charge := charge, workMap := Vector.replicate 64 0,
              workCharge := 0, plan := none } [] (planOrder input)

/-- The planner drops its plan (R82). -/
def State.dropPlan (s : State) : State := { s with planner := { s.planner with plan := none } }

/-! ## Start (R69, R80) -/

/-- The repack precondition, with the charge the request would add (R69, R104). -/
def State.repackAllowed (s : State) (current added : Nat) : Bool :=
  s.config.mode == .run && !s.ctl.atTier3 && !s.ctl.inFlight &&
    decide (s.ctl.totalCharge + added ≤ s.ctl.chargeInForce) && decide (current ≤ s.ctl.peakInForce)

/-- A repack starts: the plan serial advances, the request is held, and the planner takes the input set and raises its one
plan event (R80, R82). No response is written. -/
def State.startRepack (s : State) (held : HeldRequest) (input : List PlanEntry) : State :=
  let serial := s.ctl.planSerial + 1
  let planner := takeInput serial input s.ctl.peakInForce s.ctl.chargeInForce
  { s with
    ctl := { s.ctl with planSerial := serial, repack := .planning, held := some held }
    planner := planner
    events := { s.events with planEvents := s.events.planEvents ++ [⟨planner.plan.isSome, serial⟩] } }

/-! ## Ends (R86, R88, R95) -/

/-- The request code a held request came with. -/
def HeldRequest.code (h : HeldRequest) : Byte :=
  match h.kind with
  | .grant .. => 0x01
  | .adjust .. => 0x02

/-- The held response is written to the port whose request started the repack (R91, R195). -/
def State.answerHeld (s : State) (h : HeldRequest) (r : Result) (payload : List Byte) : State :=
  s.writeResponse h.port { client := BitVec.ofNat 8 h.client.val, code := h.code, result := r, payload := payload }

/-- The condition becomes NONE and the held request record is dropped. -/
def State.endRepack (s : State) : State := s.withCtl { s.ctl with repack := .idle, held := none }

/-- A repack in flight is abandoned: condition NONE, plan discarded, response written (R95). No repack, no change. -/
def State.abandon (s : State) (r : Result) : State :=
  if s.ctl.inFlight then
    match s.ctl.held with
    | some h => (s.endRepack.dropPlan).answerHeld h r []
    | none => s.endRepack.dropPlan
  else s

/-- Whether the plan event is the one the condition waits for (R85). -/
def Controller.awaits (c : Controller) (serial : Byte) : Bool := c.repack == .planning && c.planSerial == serial

/-- The event is taken out of those raised. -/
def State.dropPlanEvent (s : State) (e : PlanEvent) : State :=
  { s with events := { s.events with planEvents := s.events.planEvents.erase e } }

/-- PLAN_COMPLETE (R87): the condition becomes APPLY_PENDING. An event of another repack is ignored (R85). -/
def execPlanComplete (serial : Byte) (s : State) : Host.Outcome State Fault Refusal :=
  if s.events.planEvents.contains ⟨true, serial⟩ then
    let s' := s.dropPlanEvent ⟨true, serial⟩
    if s.ctl.awaits serial then .next (s'.withCtl { s'.ctl with repack := .applyPending }) else .next s'
  else .next s

/-- PLAN_FAILED (R86): the repack ends, the held-back pass runs, the request is answered NO_ROOM/REPACK_FAILED. An event of
another repack is ignored (R85). -/
def execPlanFailed (serial : Byte) (s : State) : Host.Outcome State Fault Refusal :=
  if s.events.planEvents.contains ⟨false, serial⟩ then
    let s' := s.dropPlanEvent ⟨false, serial⟩
    if s.ctl.awaits serial then
      let s'' := (s'.endRepack.dropPlan).settle true
      match s.ctl.held with
      | some h => .next (s''.answerHeld h (.noRoom .repackFailed) [])
      | none => .next s''
    else .next s'
  else .next s

/-! ## The apply (R88) -/

/-- A new grant's record (R3). -/
def newGrant (state : GrantState) (owner : Client) (ch : Channel) (priority : Priority) (duty rate : Nat) (notify : Bool)
    (leaseLength : Nat) : Grant :=
  { state := state, owner := owner, channel := ch, priority := priority, targetDuty := duty, presentDuty := 0,
    rampRate := rate, rampNotify := notify, leaseLength := leaseLength,
    leaseRemaining := if leaseLength = 0 then none else some leaseLength, notices := Notices.empty }

/-- The adjusted grant's record after the apply: start as planned, reservation equal to the need, target, rate and notify
as held (R88 step 2). -/
def adjustedGrant (g : Grant) (h : HeldRequest) (target : Nat) (start : Segment) : Grant :=
  { g with state := .active start h.needed, targetDuty := target, rampRate := h.rampRate, rampNotify := h.rampNotify }

/-- One grant in the plan takes its proposed start segment, if it is still ACTIVE (R88 step 2). -/
def moveOne (h : HeldRequest) (c : Controller) (p : Proposal) : Controller :=
  match p.entry.slot with
  | none => c
  | some i =>
    match c.grantAt i with
    | none => c
    | some g =>
      match g.state with
      | .active _ r =>
        match h.kind with
        | .adjust _ target =>
          if c.adjusting i then c.putGrant i (adjustedGrant g h target p.start)
          else c.putGrant i { g with state := .active p.start r }
        | .grant .. => c.putGrant i { g with state := .active p.start r }
      | _ => c

/-- The proposed start of the requested grant of a GRANT: the entry without a slot. -/
def requesterStart (plan : List Proposal) : Option Segment := (plan.find? fun p => p.entry.slot.isNone).map Proposal.start

/-- The slot in which the held GRANT is created, and its record (R88 steps 1 and 3). -/
def createdBy (c : Controller) (h : HeldRequest) (plan : List Proposal) : Option (SlotIx × Grant) :=
  match h.kind with
  | .grant ch prio duty len =>
    match c.freeSlot, requesterStart plan with
    | some i, some start =>
      some (i, newGrant (.active start h.needed) h.client ch prio duty h.rampRate h.rampNotify len)
    | _, _ => none
  | .adjust .. => none

/-- The controller after steps 1 to 5 of the apply: moves, creation, rebuild, end (R88). -/
def appliedController (c : Controller) (profiles : Vector Profile 16) (h : HeldRequest) (plan : List Proposal) : Controller :=
  let moved := plan.foldl (moveOne h) c
  let made := match createdBy c h plan with
    | some (i, g) => { moved.putGrant i g with admission := moved.admission ++ [i] }
    | none => moved
  { made.rebuild profiles with repack := .idle, held := none }

/-- The response to the held request once the plan is applied (R88 step 6): OK with the grant's items. A GRANT for which
there is no FREE slot, which R88 rules out, is answered NO_SLOT (R3). -/
def appliedResponse (before after : Controller) (h : HeldRequest) (plan : List Proposal) : Result × List Byte :=
  match h.kind with
  | .grant .. =>
    match createdBy before h plan with
    | some (i, _) =>
      match after.grantAt i with
      | some g => (.ok, grantPayload after i g)
      | none => (.noSlot, [])
    | none => (.noSlot, [])
  | .adjust handle _ =>
    match after.lookup handle with
    | some (i, g) => (.ok, adjustPayload after i g)
    | none => (.stale, [])

/-- The apply of the plan at a frame start (R88). -/
def State.applyPlan (s : State) : State :=
  match s.ctl.held, s.planner.plan with
  | some h, some plan =>
    let s' := ((s.withCtl (appliedController s.ctl s.config.profiles h plan)).dropPlan).settle true
    let r := appliedResponse s.ctl s'.ctl h plan
    s'.answerHeld h r.1 r.2
  | _, _ => (s.endRepack.dropPlan).settle true

/-- REPACK_APPLY (R88): the grant controller takes a frame start. It applies the plan when the condition is APPLY_PENDING; in
every other condition the frame start has no effect on it (R87). The frame start is one that waits, or that of the boundary at
hand (R184). -/
def execRepackApply (s : State) : Host.Outcome State Fault Refusal :=
  let m := s.meetFrameStart s.events.controllerFrames
  match m.events.controllerFrames with
  | 0 => .next m
  | n + 1 =>
    let s' := { m with events := { m.events with controllerFrames := n } }
    if s.ctl.repack = .applyPending then .next s'.applyPlan else .next s'

end Sys2Proof.Machine
end

