-- ==== Sys2Proof/Machine/Grants.lean ====
section
/-! DEFINITION. The requests that act on grants: GRANT (chapter 3), ADJUST (chapter 5), RENEW, RELEASE, ACK, REVOKE and
DROP_CLIENT (chapter 6). -/

namespace Sys2Proof.Machine

/-- The device is in RUN. -/
def State.running (s : State) : Bool := s.config.mode == .run

/-! ## GRANT (R50 to R70) -/

/-- The client has a grant in ACTIVE, DEFERRED or QUEUED on the channel (R53). -/
def Controller.hasLiving (c : Controller) (client : Client) (ch : Channel) : Bool :=
  (c.findSlot fun g => g.isLiving && g.owner == client && g.channel == ch).isSome

/-- The record a GRANT creates (R3). -/
def grantRecord (a : GrantArgs) (who : Client) (profile : Profile) (state : GrantState) : Grant :=
  newGrant state who a.channel a.priority a.duty (resolveRate a.rate profile) a.rampNotify a.leaseLength

/-- The answer of a GRANT that created a grant, made from the table as the event leaves it (R55, R78). -/
def answerCreated (t : Taken) (r : Result) (i : SlotIx) (s : State) : State :=
  match s.ctl.grantAt i with
  | some g => answer t r (grantPayload s.ctl i g) s
  | none => answer t r [] s

/-- A grant is created ACTIVE in this slot at this start (R63, R65 step 4). -/
def Controller.createActive (c : Controller) (profiles : Vector Profile 16) (a : GrantArgs) (who : Client) (i : SlotIx)
    (s : Segment) : Controller :=
  c.activate profiles i (grantRecord a who profiles[a.channel] .deferred) s (footprint a.duty)

/-- A grant is created in this slot and enters the waiting list (R57, R62, R63, R66). -/
def Controller.createWaiting (c : Controller) (profiles : Vector Profile 16) (a : GrantArgs) (who : Client) (i : SlotIx)
    (state : GrantState) : Controller :=
  (c.putGrant i (grantRecord a who profiles[a.channel] state)).enterWaiting i

/-- The preemption path (R64 to R67): placement is judged as if the holder had given up its room. -/
def grantPreempting (a : GrantArgs) (t : Taken) (slot holder : SlotIx) (s : State) : State :=
  let profiles := s.config.profiles
  let c := s.ctl.preempt profiles holder
  match c.placeUnlessTier3 profiles a.channel (footprint a.duty) with
  | some start =>
    answerCreated t .ok slot ((s.withCtl (c.createActive profiles a t.who slot start)).settle true)
  | none =>
    if a.wait then
      answerCreated t .deferred slot ((s.withCtl (c.createWaiting profiles a t.who slot .deferred)).settle true)
    else answer t (.noRoom (if s.ctl.atTier3 then .tier3 else .firstFit)) [] s

/-- Step 8 for a channel with a holder: preemption, queueing or refusal (R56 to R58). -/
def grantHeldChannel (a : GrantArgs) (t : Taken) (slot holder : SlotIx) (s : State) : State :=
  if a.preempt && decide (s.ctl.priorityAt holder < a.priority) then grantPreempting a t slot holder s
  else if a.wait then
    answerCreated t .queued slot
      ((s.withCtl (s.ctl.createWaiting s.config.profiles a t.who slot .queued)).settle false)
  else answer t .channelHeld (heldPayload s.ctl holder) s

/-- A waiting grant for a free channel, or a refusal (R62, R63). -/
def grantWaiting (a : GrantArgs) (t : Taken) (slot : SlotIx) (refusal : NoRoom) (s : State) : State :=
  if a.wait then
    answerCreated t .deferred slot
      ((s.withCtl (s.ctl.createWaiting s.config.profiles a t.who slot .deferred)).settle false)
  else answer t (.noRoom refusal) [] s

/-- What a GRANT that starts a repack leaves in the held request record (R70, R79). -/
def heldGrant (a : GrantArgs) (t : Taken) (profile : Profile) : HeldRequest :=
  { kind := .grant a.channel a.priority a.duty a.leaseLength, client := t.who, port := t.port,
    rampRate := resolveRate a.rate profile, rampNotify := a.rampNotify, needed := footprint a.duty }

/-- The input set of a GRANT's repack (R81). -/
def grantInput (s : State) (a : GrantArgs) : List PlanEntry :=
  activeEntries s.ctl s.config.profiles none ++
    [planEntryOf s.config.profiles none a.channel a.priority (footprint a.duty)]

/-- Steps 9 and 10 for a channel without holder (R62, R63, R69, R70). -/
def grantFreeChannel (a : GrantArgs) (t : Taken) (slot : SlotIx) (s : State) : State :=
  let profiles := s.config.profiles
  if s.ctl.atTier3 then grantWaiting a t slot .tier3 s
  else
    match s.ctl.place profiles a.channel (footprint a.duty) with
    | some start =>
      answerCreated t .ok slot ((s.withCtl (s.ctl.createActive profiles a t.who slot start)).settle false)
    | none =>
      let current := currentOf profiles a.channel
      if a.allowRepack && s.repackAllowed current (current * footprint a.duty) then
        s.startRepack (heldGrant a t profiles[a.channel]) (grantInput s a)
      else grantWaiting a t slot .firstFit s

/-- The first of steps 1 to 7 that fails, after the arguments are in range (R51 to R54). -/
def grantRefusal (a : GrantArgs) (who : Client) (s : State) : Option Result :=
  if !s.config.profiles[a.channel].enabled then some .channelOff
  else if s.engine[a.channel].fault = .faulted then some .channelFault
  else if s.config.profiles[a.channel].maxDuty < a.duty then some .overLimit
  else if s.ctl.hasLiving who a.channel then some .duplicate
  else if s.ctl.freeSlot.isNone then some .noSlot
  else if s.ctl.inFlight then some .retry
  else none

/-- GRANT after the common checks (R51). -/
def grantEvent (payload : List Byte) (t : Taken) (s : State) : State :=
  if !s.running then answer t .wrongMode [] s
  else
    match readGrant payload with
    | none => answer t .badArg [] s
    | some a =>
      match grantRefusal a t.who s, s.ctl.freeSlot with
      | some r, _ => answer t r [] s
      | none, none => answer t .noSlot [] s
      | none, some slot =>
        match s.ctl.holder a.channel with
        | some holder => grantHeldChannel a t slot holder s
        | none => grantFreeChannel a t slot s

/-- GRANT (R51). -/
def execGrant (p : Port) (client : Byte) (payload : List Byte) (s : State) : Host.Outcome State Fault Refusal :=
  .next (runRequest p client 0x01 payload (grantEvent payload) s)

/-! ## Requests that name a handle (R16) -/

/-- Steps 1 to 3 of R16, then the request's own rule on the slot and grant the handle names. -/
def withHandle (handle : Option Nat) (t : Taken) (body : Nat → SlotIx → Grant → State) (s : State) : State :=
  if !s.running then answer t .wrongMode [] s
  else
    match handle with
    | none => answer t .badArg [] s
    | some h =>
      match s.ctl.lookup h with
      | none => answer t .stale [] s
      | some (i, g) => body h i g

/-- Step 4 of R16: the request is taken from the owner alone. -/
def ownerOnly (t : Taken) (g : Grant) (body : State) (s : State) : State :=
  if g.owner = t.who then body else answer t .notOwner [] s

/-- Step 5 of R16: a CLOSED grant is refused with its close reason. -/
def refuseClosed (t : Taken) (g : Grant) (body : State) (s : State) : State :=
  match g.state with
  | .closed reason => answer t (.closed reason) [] s
  | _ => body

/-! ## ADJUST (R102 to R106) -/

/-- The answer of an ADJUST answered OK, from the table as the event leaves it (R106). -/
def answerAdjusted (t : Taken) (i : SlotIx) (s : State) : State :=
  match s.ctl.grantAt i with
  | some g => answer t .ok (adjustPayload s.ctl i g) s
  | none => answer t .ok [] s

/-- The grant with the target duty, ramp rate and ramp notify of the ADJUST (R102). -/
def retarget (a : AdjustArgs) (profile : Profile) (g : Grant) : Grant :=
  { g with targetDuty := a.target, rampRate := resolveRate a.rate profile, rampNotify := a.rampNotify }

/-- An ADJUST of an ACTIVE grant within its reservation (R102): a target equal to the present duty gives back the room above
it, and a retry pass follows. -/
def adjustWithin (a : AdjustArgs) (t : Taken) (i : SlotIx) (g : Grant) (reservation : Nat) (s : State) : State :=
  let profiles := s.config.profiles
  let c := s.ctl.putGrant i (retarget a profiles[g.channel] g)
  let keep := footprint g.presentDuty
  if a.target = g.presentDuty ∧ keep < reservation then
    answerAdjusted t i ((s.withCtl (c.resize profiles i keep)).settle true)
  else answerAdjusted t i (s.withCtl c)

/-- What an ADJUST that starts a repack leaves in the held request record (R79, R104). -/
def heldAdjust (a : AdjustArgs) (t : Taken) (profile : Profile) : HeldRequest :=
  { kind := .adjust a.handle a.target, client := t.who, port := t.port, rampRate := resolveRate a.rate profile,
    rampNotify := a.rampNotify, needed := footprint a.target }

/-- An ADJUST of an ACTIVE grant that needs more room (R103, R104). -/
def adjustGrow (a : AdjustArgs) (t : Taken) (i : SlotIx) (g : Grant) (start : Segment) (reservation : Nat) (s : State) :
    State :=
  let profiles := s.config.profiles
  let current := currentOf profiles g.channel
  let need := footprint a.target
  if s.ctl.inFlight then answer t .retry [] s
  else if fits s.ctl.loadMap s.ctl.totalCharge s.ctl.peakInForce s.ctl.chargeInForce current
      (segmentAfter start reservation) (need - reservation) then
    answerAdjusted t i
      (s.withCtl ((s.ctl.putGrant i (retarget a profiles[g.channel] g)).resize profiles i need))
  else if a.allowRepack && s.repackAllowed current (current * (need - reservation)) then
    s.startRepack (heldAdjust a t profiles[g.channel]) (activeEntries s.ctl profiles (some (i, need)))
  else answer t (.noRoom .firstFit) [] s

/-- ADJUST of the grant in its state, once the checks have passed (R102 to R105). -/
def adjustState (a : AdjustArgs) (t : Taken) (i : SlotIx) (g : Grant) (s : State) : State :=
  match g.state with
  | .active start reservation =>
    if footprint a.target ≤ reservation then adjustWithin a t i g reservation s
    else adjustGrow a t i g start reservation s
  | _ => answerAdjusted t i (s.withCtl (s.ctl.putGrant i (retarget a s.config.profiles[g.channel] g)))

/-- ADJUST after the common checks (R102). -/
def adjustEvent (payload : List Byte) (t : Taken) (s : State) : State :=
  withHandle ((readAdjust payload).map AdjustArgs.handle) t (fun _ i g =>
    ownerOnly t g (refuseClosed t g
      (match readAdjust payload with
       | none => answer t .badArg [] s
       | some a =>
         if s.config.profiles[g.channel].maxDuty < a.target then answer t .overLimit [] s
         else adjustState a t i g s) s) s) s

/-- ADJUST (R102). -/
def execAdjust (p : Port) (client : Byte) (payload : List Byte) (s : State) : Host.Outcome State Fault Refusal :=
  .next (runRequest p client 0x02 payload (adjustEvent payload) s)

/-! ## RENEW (R119) -/

/-- The grant with its lease restarted: the lease remaining is the lease length, absent when that is 0 (R119, R114, R9), also after
a tick that did not expire the grant, against the last sentence of R120 (DEDUCED, notes/assumptions/23.md). -/
def renewed (g : Grant) : Grant := if g.leaseLength = 0 then g else { g with leaseRemaining := some g.leaseLength }

/-- RENEW after the common checks. -/
def renewEvent (payload : List Byte) (t : Taken) (s : State) : State :=
  withHandle (readHandle payload) t (fun h i g =>
    ownerOnly t g (refuseClosed t g
      (answer t .ok (renewPayload h (renewed g)) (s.withCtl (s.ctl.putGrant i (renewed g)))) s) s) s

/-- RENEW (R119). -/
def execRenew (p : Port) (client : Byte) (payload : List Byte) (s : State) : Host.Outcome State Fault Refusal :=
  .next (runRequest p client 0x03 payload (renewEvent payload) s)

/-! ## RELEASE (R121) -/

/-- RELEASE after the common checks: room and list place given up, slot freed, summaries updated, a retry pass if the grant
was ACTIVE or DEFERRED. -/
def releaseEvent (payload : List Byte) (t : Taken) (s : State) : State :=
  withHandle (readHandle payload) t (fun h i g =>
    ownerOnly t g
      (answer t .ok (put16 h ++ put8 g.state.code)
        ((s.withCtl (s.ctl.free s.config.profiles i)).settle g.holds)) s) s

/-- RELEASE (R121). -/
def execRelease (p : Port) (client : Byte) (payload : List Byte) (s : State) : Host.Outcome State Fault Refusal :=
  .next (runRequest p client 0x04 payload (releaseEvent payload) s)

/-! ## ACK (R123, R124) -/

/-- The named notices are removed; a CLOSED grant's slot is freed when CLOSED is named (R123, R124). -/
def ackGrant (named : Notices) (h : Nat) (t : Taken) (i : SlotIx) (g : Grant) (s : State) : State :=
  let g' := { g with notices := g.notices.without named }
  if g.isClosed && named.closed then
    answer t .ok (put16 h ++ putBool true ++ put8 0 ++ put8 0)
      ((s.withCtl (s.ctl.free s.config.profiles i)).settle false)
  else
    answer t .ok (put16 h ++ putBool false ++ put8 g'.state.code ++ put8 (noticesByte g'.notices))
      ((s.withCtl (s.ctl.putGrant i g')).settle false)

/-- ACK after the common checks. -/
def ackEvent (payload : List Byte) (t : Taken) (s : State) : State :=
  withHandle ((readAck payload).map Prod.fst) t (fun h i g =>
    ownerOnly t g
      (match readAck payload with
       | none => answer t .badArg [] s
       | some (_, named) => ackGrant named h t i g s) s) s

/-- ACK (R123). -/
def execAck (p : Port) (client : Byte) (payload : List Byte) (s : State) : Host.Outcome State Fault Refusal :=
  .next (runRequest p client 0x05 payload (ackEvent payload) s)

/-! ## REVOKE (R125) -/

/-- A grant that is not CLOSED is retired with this reason; the repack that adjusts it is abandoned before (R116, R96). -/
def State.retireGrant (s : State) (i : SlotIx) (reason : CloseReason) : State :=
  let s' := if s.ctl.adjusting i then s.abandon (.noRoom .repackAbandoned) else s
  s'.withCtl (s'.ctl.retire s'.config.profiles i reason)

/-- The answer of a REVOKE: handle, state CLOSED, the close reason the record has (R125). -/
def revokePayload (h : Nat) (reason : CloseReason) : List Byte := put16 h ++ put8 4 ++ put8 reason.code

/-- REVOKE after the common checks. -/
def revokeEvent (payload : List Byte) (t : Taken) (s : State) : State :=
  withHandle (readHandle payload) t (fun h i g =>
    match g.state with
    | .closed reason => answer t .ok (revokePayload h reason) s
    | _ =>
      answer t .ok (revokePayload h .revoked)
        ((s.retireGrant i .revoked).settle (g.holds || s.ctl.adjusting i))) s

/-- REVOKE (R125). -/
def execRevoke (p : Port) (client : Byte) (payload : List Byte) (s : State) : Host.Outcome State Fault Refusal :=
  .next (runRequest p client 0x06 payload (revokeEvent payload) s)

/-! ## DROP_CLIENT (R127, R128) -/

/-- The repack in flight was requested by the client, or adjusts a grant of the client (R96, R129). -/
def Controller.repackTouches (c : Controller) (client : Client) : Bool :=
  c.inFlight && (c.held.any fun h => h.client == client) || (c.ownedSlots client).any c.adjusting

/-- Every grant of the client is freed, in ascending slot order; the repack that concerns the client is abandoned first, and
one retry pass follows if a freed grant held its channel or the repack was abandoned (R128, R129, R96). -/
def State.dropGrants (s : State) (client : Client) : State :=
  let abandons := s.ctl.repackTouches client
  let s' := if abandons then s.abandon (.noRoom .repackAbandoned) else s
  let slots := s'.ctl.ownedSlots client
  let holding := slots.any fun i => (s'.ctl.grantAt i).any Grant.holds
  (s'.withCtl (slots.foldl (fun c i => c.free s'.config.profiles i) s'.ctl)).settle (holding || abandons)

/-- DROP_CLIENT after the common checks. -/
def dropEvent (payload : List Byte) (t : Taken) (s : State) : State :=
  if !s.running then answer t .wrongMode [] s
  else
    match readClient payload with
    | none => answer t .badArg [] s
    | some client =>
      if t.who ≠ client ∧ t.who ≠ 0 then answer t .notPermitted [] s
      else
        answer t .ok (put8 client.val ++ put8 (s.ctl.ownedSlots client).length) (s.dropGrants client)

/-- DROP_CLIENT (R128). -/
def execDropClient (p : Port) (client : Byte) (payload : List Byte) (s : State) : Host.Outcome State Fault Refusal :=
  .next (runRequest p client 0x07 payload (dropEvent payload) s)

end Sys2Proof.Machine
end

