-- ==== Sys2Proof/Machine/Reads.lean ====
section
/-! DEFINITION. The requests that read the part and change nothing but their port's response holder: QUERY, LIST (chapter 1),
MAP_READ (chapter 2), STATUS and GET_PROFILE (chapter 9). -/

namespace Sys2Proof.Machine

/-- QUERY after the common checks: steps 1 to 3 of R16, then the record (R26, R27). -/
def queryEvent (payload : List Byte) (t : Taken) (s : State) : State :=
  withHandle (readHandle payload) t (fun _ i g => answer t .ok (queryPayload s.ctl i g) s) s

/-- QUERY (R26). -/
def execQuery (p : Port) (client : Byte) (payload : List Byte) (s : State) : Host.Outcome State Fault Refusal :=
  .next (runRequest p client 0x10 payload (queryEvent payload) s)

/-- LIST after the common checks (R29). -/
def listEvent (payload : List Byte) (t : Taken) (s : State) : State :=
  if !s.running then answer t .wrongMode [] s
  else
    match readClient payload with
    | none => answer t .badArg [] s
    | some client => answer t (.okListed (s.ctl.ownedSlots client).length) (listPayload s.ctl client) s

/-- LIST (R29). -/
def execList (p : Port) (client : Byte) (payload : List Byte) (s : State) : Host.Outcome State Fault Refusal :=
  .next (runRequest p client 0x11 payload (listEvent payload) s)

/-- MAP_READ after the common checks (R47, R48). -/
def mapReadEvent (payload : List Byte) (t : Taken) (s : State) : State :=
  if !s.running then answer t .wrongMode [] s
  else
    match readMapRun payload with
    | none => answer t .badArg [] s
    | some (first, count) => answer t .ok (mapPayload s.ctl first count) s

/-- MAP_READ (R47). -/
def execMapRead (p : Port) (client : Byte) (payload : List Byte) (s : State) : Host.Outcome State Fault Refusal :=
  .next (runRequest p client 0x12 payload (mapReadEvent payload) s)

/-- STATUS (R183): always answered OK after the common checks. A block that has not yet taken a frame start shows its
old items, one that has its new ones; the frame count is the frame timer's item in the same way (R184,
notes/assumptions/25.md). -/
def execStatus (p : Port) (client : Byte) (payload : List Byte) (s : State) : Host.Outcome State Fault Refusal :=
  .next (runRequest p client 0x13 payload (fun t s' => answer t .ok (statusPayload s') s') s)

/-- GET_PROFILE after the common checks (R179). -/
def getProfileEvent (payload : List Byte) (t : Taken) (s : State) : State :=
  match readChannel payload with
  | none => answer t .badArg [] s
  | some ch => answer t .ok (put8 ch.val ++ profileRecord s.config.profiles[ch]) s

/-- GET_PROFILE (R179). -/
def execGetProfile (p : Port) (client : Byte) (payload : List Byte) (s : State) : Host.Outcome State Fault Refusal :=
  .next (runRequest p client 0x14 payload (getProfileEvent payload) s)

end Sys2Proof.Machine
end

