-- ==== Sys2Proof/Machine/Tiers.lean ====
section
/-! DEFINITION. Supply tiers and shedding (chapter 7): the supply tier unit's sample with the meanings of SAMPLE,
DOWN_DEBOUNCE and UP_HOLD_OFF, and the grant controller's TIER_CHANGE. -/

namespace Sys2Proof.Machine

/-! ## The effective tier (R139) -/

/-- The minimum tier a LIMIT pin imposes: its setting while the pin is asserted, TIER0 otherwise (R138). -/
def limitTier (p : LimitPin) (set : LimitSetting) : Tier := if p.asserted then set.minTier else 0

/-- The largest of the supply tier and the minimum tiers of the asserted LIMIT pins (R139). -/
def effectiveTier (u : TierUnit) (m : Monitor) : Tier :=
  max u.supplyTier (max (limitTier u.limit0 m.limit0) (limitTier u.limit1 m.limit1))

/-- The effective tier is recomputed; a change is taken and raises one tier change event (R139). -/
def State.recomputeTier (s : State) : State :=
  let e := effectiveTier s.supply s.config.monitor
  if e = s.supply.effective then s
  else { s with supply := { s.supply with effective := e },
                events := { s.events with tierChanges := s.events.tierChanges + 1 } }

/-! ## One sample (R133 to R138) -/

/-- SENSE is below a ladder code's reference (R133). -/
def belowCode (microvolts code : Nat) : Bool := decide (microvolts < code * Config.ladderMicrovolts)

/-- The band: how many of the thresholds SENSE is below (R133). -/
def bandOf (m : Monitor) (r : SenseReading) : Fin 4 :=
  ⟨(belowCode r.atT1 m.t1).toNat + (belowCode r.atT2 m.t2).toNat + (belowCode r.atT3 m.t3).toNat, by
    have h1 := Bool.toNat_le (belowCode r.atT1 m.t1)
    have h2 := Bool.toNat_le (belowCode r.atT2 m.t2)
    have h3 := Bool.toNat_le (belowCode r.atT3 m.t3)
    omega⟩

/-- The threshold of a supply tier of 1 or more (R133). -/
def thresholdOf (m : Monitor) (t : Tier) : Nat :=
  match t with
  | 0 => 0
  | 1 => m.t1
  | 2 => m.t2
  | 3 => m.t3

/-- Recovered: the supply tier is 1 or more and SENSE is at or above its recovery code (R133). -/
def recoveredAt (m : Monitor) (t : Tier) (r : SenseReading) : Bool :=
  t != 0 && !belowCode r.atRecovery (thresholdOf m t + m.hysteresis)

/-- A down frame: the band is greater than the supply tier (R134). -/
def isDownFrame (m : Monitor) (u : TierUnit) (r : SenseReading) : Bool := decide (u.supplyTier < bandOf m r)

/-- An up frame: recovered, and not a down frame (R134). -/
def isUpFrame (m : Monitor) (u : TierUnit) (r : SenseReading) : Bool :=
  !isDownFrame m u r && recoveredAt m u.supplyTier r

/-- The next less severe tier. -/
def tierBelow (t : Tier) : Tier := ⟨t.val - 1, by omega⟩

/-- The sample's down frame brings the down counter to N_down (R135). -/
def debounceFires (m : Monitor) (u : TierUnit) (r : SenseReading) : Bool :=
  m.enabled && isDownFrame m u r && decide (m.nDown ≤ u.down + 1)

/-- The sample's up frame brings the up counter to the hold-off (R136). -/
def holdOffFires (m : Monitor) (u : TierUnit) (r : SenseReading) : Bool :=
  m.enabled && isUpFrame m u r && decide (m.holdOff ≤ u.up + 1)

/-- The band is recorded and the debounce and hold-off steps are made; a disabled monitor holds all at 0 (R133 to R137). -/
def senseStep (m : Monitor) (r : SenseReading) (u : TierUnit) : TierUnit :=
  if !m.enabled then { u with supplyTier := 0, down := 0, up := 0, band := 0 }
  else if isDownFrame m u r then
    if debounceFires m u r then { u with band := bandOf m r, supplyTier := bandOf m r, down := 0, up := 0 }
    else { u with band := bandOf m r, down := u.down + 1, up := 0 }
  else if isUpFrame m u r then
    if holdOffFires m u r then { u with band := bandOf m r, supplyTier := tierBelow u.supplyTier, down := 0, up := 0 }
    else { u with band := bandOf m r, down := 0, up := u.up + 1 }
  else { u with band := bandOf m r, down := 0, up := 0 }

/-- One sample of a LIMIT pin: two equal samples in a row that differ from the state change it (R138). -/
def limitStep (set : LimitSetting) (high : Bool) (p : LimitPin) : LimitPin :=
  let sample := high != set.activeLow
  { lastSample := some sample, asserted := if p.lastSample = some sample then sample else p.asserted }

/-- The sample of the supply tier unit: comparisons, LIMIT pins, effective tier (R133, R138, R139). -/
def State.takeSample (s : State) (r : SenseReading) (l : LimitLevels) : State :=
  let m := s.config.monitor
  let u := senseStep m r s.supply
  State.recomputeTier
    { s with supply := { u with limit0 := limitStep m.limit0 l.limit0High u.limit0,
                                limit1 := limitStep m.limit1 l.limit1High u.limit1 } }

/-- The supply tier unit takes one frame start that waits, or the one of the boundary at hand, if there is one, as a sample
(R133, R184). -/
def State.supplyFrame (s : State) (r : SenseReading) (l : LimitLevels) : State :=
  let m := s.meetFrameStart s.events.supplyFrames
  match m.events.supplyFrames with
  | 0 => m
  | n + 1 => State.takeSample { m with events := { m.events with supplyFrames := n } } r l

/-- SAMPLE (R133). -/
def execSample (r : SenseReading) (l : LimitLevels) (s : State) : Host.Outcome State Fault Refusal :=
  .next (s.supplyFrame r l)

/-- DOWN_DEBOUNCE (R135): the sample that brings the down counter to N_down (notes/assumptions/4.md). -/
def execDownDebounce (r : SenseReading) (l : LimitLevels) (s : State) : Host.Outcome State Fault Refusal :=
  if debounceFires s.config.monitor s.supply r then .next (s.supplyFrame r l) else .next s

/-- UP_HOLD_OFF (R136): the sample that brings the up counter to the hold-off (notes/assumptions/4.md). -/
def execUpHoldOff (r : SenseReading) (l : LimitLevels) (s : State) : Host.Outcome State Fault Refusal :=
  if holdOffFires s.config.monitor s.supply r then .next (s.supplyFrame r l) else .next s

/-! ## Shedding (R143 to R146) -/

/-- Among the ACTIVE grants that meet the test, the one of lowest priority, and among equals the one latest in the admission
list (R144 step 3). -/
def Controller.shedChoice (c : Controller) (test : Grant → Bool) : Option SlotIx :=
  (c.admission.filter fun i => (c.grantAt i).any fun g => g.isActive && test g).foldl
    (fun best i =>
      match best with
      | none => some i
      | some b => if c.priorityAt i ≤ c.priorityAt b then some i else some b)
    none

/-- The reservation of the ACTIVE grant covers the segment. -/
def Grant.coversSegment (g : Grant) (k : Segment) : Bool :=
  match g.state with
  | .active s r => covers s r k
  | _ => false

/-- The lowest-numbered segment above the peak ceiling in force (R144 step 1). -/
def Controller.overloaded (c : Controller) : Option Segment :=
  allSegments.find? fun k => decide (c.peakInForce < c.loadMap[k])

/-- The next grant to shed: for peak, for charge, or none (R144); at TIER3 every ACTIVE grant is a candidate (R146). -/
def Controller.nextShed (c : Controller) : Option SlotIx :=
  if c.atTier3 then c.shedChoice fun _ => true
  else
    match c.overloaded with
    | some k => c.shedChoice fun g => g.coversSegment k
    | none => if c.chargeInForce < c.totalCharge then c.shedChoice fun g => decide (1 ≤ g.room) else none

/-- Grants are shed one at a time until none is chosen, at most n of them. -/
def shedLoop (profiles : Vector Profile 16) : Nat → Controller → Controller
  | 0, c => c
  | n + 1, c =>
    match c.nextShed with
    | some i => shedLoop profiles n (c.shed profiles i)
    | none => c

/-- The sheds of a drop: at most one for each ACTIVE grant (R144, R146). -/
def Controller.shedAll (c : Controller) (profiles : Vector Profile 16) : Controller :=
  shedLoop profiles c.admission.length c

/-! ## Taking a tier change (R142, R143, R148) -/

/-- A tier drop (R143): the repack is abandoned, the ceilings are loaded, grants are shed, and a pass runs for the triggers
the repack held back. -/
def State.tierDrop (s : State) (tier : Tier) : State :=
  let abandons := s.ctl.inFlight
  let s' := s.abandon (.noRoom .repackAbandoned)
  (s'.withCtl ((s'.ctl.loadTier s'.config.tiers tier).shedAll s'.config.profiles)).settle abandons

/-- A tier rise (R148): the ceilings are loaded and a retry pass runs. -/
def State.tierRise (s : State) (tier : Tier) : State :=
  (s.withCtl (s.ctl.loadTier s.config.tiers tier)).settle true

/-- The grant controller compares the effective tier with its tier in force and applies a ceiling load, a drop or a rise
(R142). -/
def State.takeTierChange (s : State) : State :=
  let tier := s.supply.effective
  if tier = s.ctl.tierInForce then s
  else if !s.running then s.withCtl (s.ctl.loadTier s.config.tiers tier)
  else if s.ctl.tierInForce < tier then s.tierDrop tier
  else s.tierRise tier

/-- TIER_CHANGE (R142): the grant controller takes one raised tier change, if there is one. -/
def execTierChange (s : State) : Host.Outcome State Fault Refusal :=
  match s.events.tierChanges with
  | 0 => .next s
  | n + 1 => .next (State.takeTierChange { s with events := { s.events with tierChanges := n } })

end Sys2Proof.Machine
end

