-- ==== Sys2Proof/Machine/Engine.lean ====
section
/-! DEFINITION. The frame timer and the output engine with its channel supervisor (chapter 8), and ramp stepping (chapter 5):
the meanings of FRAME_START, STEP_COUNTER_ADVANCE, ENGINE_FRAME_START, CHANNEL_BECOMES_FAULTED, READBACK_SAMPLE and
CLEAR_FAULT. -/

namespace Sys2Proof.Machine

/-! ## The frame timer (R152, R153) -/

/-- FRAME_START (R152): what is left of the frame passes, and the boundary comes (notes/assumptions/5.md). The timer stands
while RESET_N is low (R154). -/
def execFrameStart (s : State) : Host.Outcome State Fault Refusal :=
  if s.inReset then .next s else .next s.frameBoundary

/-- STEP_COUNTER_ADVANCE (R152): one step; from 2047 it is the frame boundary. -/
def execStepCounterAdvance (s : State) : Host.Outcome State Fault Refusal :=
  if s.inReset then .next s
  else if s.timer.step = 2047 then .next s.frameBoundary
  else .next { s with timer := { step := s.timer.step + 1, frameCount := s.timer.reached } }

/-! ## Evaluation (R163) -/

/-- Some sample of the frame was mismatched. -/
def ChannelUnit.anyMismatch (u : ChannelUnit) : Bool := u.inside == .mismatched || u.outside == .mismatched

/-- Some sample of the frame was taken. -/
def ChannelUnit.anySample (u : ChannelUnit) : Bool := u.inside != .notTaken || u.outside != .notTaken

/-- The supervisor checks the channel: profile enabled and readback check on (R162). -/
def Profile.checked (p : Profile) : Bool := p.enabled && p.readback

/-- The mismatch of this frame brings the count of an OK channel to 3 (R163). -/
def ChannelUnit.faultsNow (u : ChannelUnit) (p : Profile) : Bool :=
  u.fault == .ok && p.checked && u.anyMismatch && decide (Config.faultCount ≤ u.mismatches + 1)

/-- The evaluation of one channel (R163); a channel that becomes FAULTED is blanked at once (R161). The count of an OK channel
that is no longer checked is cleared, whatever samples it has (R178, notes/assumptions/22.md). -/
def ChannelUnit.evaluate (u : ChannelUnit) (p : Profile) : ChannelUnit :=
  if u.fault = .faulted then u
  else if !p.checked then { u with mismatches := 0 }
  else if u.faultsNow p then { u with mismatches := Config.faultCount, fault := .faulted, window := none }
  else if u.anyMismatch then { u with mismatches := u.mismatches + 1 }
  else if u.anySample then { u with mismatches := 0 }
  else u

/-- The channels that become FAULTED at this evaluation, ascending. -/
def State.faultingChannels (s : State) : List Channel := allChannels.filter fun ch => s.engine[ch].faultsNow s.config.profiles[ch]

/-- The evaluation of every channel; each that becomes FAULTED raises a channel fault event (R163). -/
def State.evaluateAll (s : State) : State :=
  { s with
    engine := Vector.ofFn fun ch => (s.engine[ch]).evaluate s.config.profiles[ch]
    events := { s.events with channelFaults := s.events.channelFaults ++ s.faultingChannels } }

/-! ## Ramp stepping and capture (R99, R100, R157) -/

/-- One step of a ramp (R99). -/
def rampStep (present target rate : Nat) : Nat :=
  if rate = 0 then target
  else if present < target then min target (present + rate)
  else max target (present - rate)

/-- An ACTIVE grant is stepped; no other grant is captured (R99). -/
def Grant.stepped (g : Grant) : Grant :=
  if g.isActive then { g with presentDuty := rampStep g.presentDuty g.targetDuty g.rampRate } else g

/-- The step of this capture brings the present duty to its target from a value that differed (R100). -/
def Grant.completesNow (g : Grant) : Bool :=
  g.isActive && g.presentDuty != g.targetDuty && g.stepped.presentDuty == g.targetDuty

/-- The ramp complete events of a capture, ascending by slot (R100). -/
def Controller.completions (c : Controller) : List RampEvent :=
  (c.slotsWhere Grant.completesNow).filterMap fun i => (c.grantAt i).map fun g => ⟨c.handleAt i, g.targetDuty⟩

/-- Every ACTIVE grant's present duty is stepped in its record (R99). -/
def Controller.stepRamps (c : Controller) : Controller :=
  { c with table := Vector.ofFn fun i => { c.table[i] with grant := (c.table[i].grant).map Grant.stepped } }

/-- The window of an ACTIVE grant: from the first step of its start segment, as long as its present duty; none for duty 0
(R33, R157). -/
def Grant.window (g : Grant) : Option Window :=
  match g.state with
  | .active s _ => if g.presentDuty = 0 then none else some ⟨⟨32 * s.val, by omega⟩, g.presentDuty⟩
  | _ => none

/-- The window captured for a channel: its ACTIVE grant's, if the channel is OK (R157). -/
def capturedWindow (c : Controller) (u : ChannelUnit) (ch : Channel) : Option Window :=
  if u.fault = .faulted then none
  else ((c.findSlot fun g => g.isActive && g.channel == ch).bind c.grantAt).bind Grant.window

/-- The capture (R157): in RUN the ramps are stepped, their completions raised and the windows formed from the stepped duties;
in CONFIG every window is none and nothing is stepped (R156 step 2). -/
def State.capture (s : State) : State :=
  if s.running then
    let c := s.ctl.stepRamps
    { s with
      ctl := c
      engine := Vector.ofFn fun ch =>
        let w := capturedWindow c s.engine[ch] ch
        { s.engine[ch] with window := w, captured := w }
      events := { s.events with rampCompletes := s.events.rampCompletes ++ s.ctl.completions } }
  else { s with engine := Vector.ofFn fun ch => { s.engine[ch] with window := none, captured := none } }

/-- The readback samples of a channel are cleared to not taken. -/
def ChannelUnit.clearSamples (u : ChannelUnit) : ChannelUnit := { u with inside := .notTaken, outside := .notTaken }

/-- The readback samples of every channel are cleared (R156 step 3). -/
def State.clearSamples (s : State) : State :=
  { s with engine := Vector.ofFn fun ch => s.engine[ch].clearSamples }

/-- The output engine takes one frame start that waits, or the one of the boundary at hand, if there is one: evaluation, capture,
new frame (R156, R184). -/
def State.engineFrame (s : State) : State :=
  let m := s.meetFrameStart s.events.engineFrames
  match m.events.engineFrames with
  | 0 => m
  | n + 1 => ({ m with events := { m.events with engineFrames := n } }.evaluateAll.capture).clearSamples

/-- ENGINE_FRAME_START (R156). -/
def execEngineFrameStart (s : State) : Host.Outcome State Fault Refusal := .next s.engineFrame

/-- CHANNEL_BECOMES_FAULTED (R163): the frame start whose evaluation makes this channel FAULTED (notes/assumptions/4.md). -/
def execChannelBecomesFaulted (ch : Channel) (s : State) : Host.Outcome State Fault Refusal :=
  if s.engine[ch].faultsNow s.config.profiles[ch] then .next s.engineFrame else .next s

/-! ## Readback (R162) -/

/-- The step of the inside sample; none without a window (R162). -/
def ChannelUnit.insideStep (u : ChannelUnit) : Option StepIx :=
  u.captured.map fun w => stepAfter w.start (w.length / 2)

/-- The step of the outside sample; none with a window of the whole frame (R162). -/
def ChannelUnit.outsideStep (u : ChannelUnit) : Option StepIx :=
  match u.captured with
  | none => some 1024
  | some w => if w.length < 2048 then some (stepAfter w.start (w.length + (2048 - w.length) / 2)) else none

/-- The supervisor samples the channel: profile enabled, readback check on, fault state OK, and the frame running is the one
its live image was captured for (R162). -/
def State.samples (s : State) (ch : Channel) : Bool :=
  !s.inReset && s.events.engineFrames == 0 && s.config.profiles[ch].checked && s.engine[ch].fault == .ok

/-- The sample's outcome: the pin's level against the commanded level of this step (R162). -/
def State.sampleMark (s : State) (ch : Channel) (pinHigh : Bool) : SampleMark :=
  if pinHigh = commandedHigh s.config.profiles[ch] (s.channelActive ch) then .matched else .mismatched

/-- READBACK_SAMPLE (R162): at the inside or the outside sample step the pin is compared and the sample recorded, once; at every
other step no sample is taken. A sample of the present step that a CLEAR_FAULT has discarded can be taken again at this step,
after the request: R167 does not name the case (DESIGN CHOICE, notes/assumptions/26.md). -/
def execReadbackSample (ch : Channel) (pinHigh : Bool) (s : State) : Host.Outcome State Fault Refusal :=
  if !s.samples ch then .next s
  else if s.engine[ch].insideStep = some s.timer.step ∧ s.engine[ch].inside = .notTaken then
    .next { s with engine := s.engine.set ch { s.engine[ch] with inside := s.sampleMark ch pinHigh } }
  else if s.engine[ch].outsideStep = some s.timer.step ∧ s.engine[ch].outside = .notTaken then
    .next { s with engine := s.engine.set ch { s.engine[ch] with outside := s.sampleMark ch pinHigh } }
  else .next s

/-! ## CLEAR_FAULT (R167) -/

/-- The channel is OK again with count 0, its samples of the current frame discarded (R167). -/
def ChannelUnit.cleared (u : ChannelUnit) : ChannelUnit := { u.clearSamples with fault := .ok, mismatches := 0 }

/-- CLEAR_FAULT after the common checks: the answer carries the fault state and the count before (R167). -/
def clearFaultEvent (payload : List Byte) (t : Taken) (s : State) : State :=
  match readChannel payload with
  | none => answer t .badArg [] s
  | some ch =>
    let u := s.engine[ch]
    answer t .ok (put8 ch.val ++ putBool (u.fault == .faulted) ++ put8 u.mismatches)
      { s with engine := s.engine.set ch u.cleared }

/-- CLEAR_FAULT (R167). -/
def execClearFault (p : Port) (client : Byte) (payload : List Byte) (s : State) : Host.Outcome State Fault Refusal :=
  .next (runRequest p client 0x18 payload (clearFaultEvent payload) s)

end Sys2Proof.Machine
end

