-- ==== Sys2Proof/Machine/Settings.lean ====
section
/-! DEFINITION. The configuration requests (chapter 9): SET_PROFILE, SET_TIERS, SET_MONITOR, SET_FRAME, START, STOP and
CLEAR. -/

namespace Sys2Proof.Machine

/-! ## SET_PROFILE (R178) -/

/-- SET_PROFILE after the common checks: CONFIG alone, arguments in range, then the whole profile is replaced. -/
def setProfileEvent (payload : List Byte) (t : Taken) (s : State) : State :=
  if s.running then answer t .wrongMode [] s
  else
    match readSetProfile payload with
    | none => answer t .badArg [] s
    | some (ch, profile) =>
      answer t .ok (put8 ch.val)
        { s with config := { s.config with profiles := s.config.profiles.set ch profile } }

/-- SET_PROFILE (R178). -/
def execSetProfile (p : Port) (client : Byte) (payload : List Byte) (s : State) : Host.Outcome State Fault Refusal :=
  .next (runRequest p client 0x20 payload (setProfileEvent payload) s)

/-! ## SET_TIERS (R180) -/

/-- The answer of SET_TIERS: tier in force and the ceilings in force after the reload (R180). -/
def tiersPayload (c : Controller) : List Byte := put8 c.tierInForce.val ++ put16 c.peakInForce ++ put24 c.chargeInForce

/-- The tier table is replaced and the ceilings of the tier in force are reloaded (R180, R44). -/
def State.setTiers (s : State) (table : TierTable) : State :=
  { s with config := { s.config with tiers := table }, ctl := s.ctl.loadTier table s.ctl.tierInForce }

/-- SET_TIERS after the common checks. -/
def setTiersEvent (payload : List Byte) (t : Taken) (s : State) : State :=
  if s.running then answer t .wrongMode [] s
  else
    match readTiers payload with
    | none => answer t .badArg [] s
    | some table => answer t .ok (tiersPayload (s.setTiers table).ctl) (s.setTiers table)

/-- SET_TIERS (R180). -/
def execSetTiers (p : Port) (client : Byte) (payload : List Byte) (s : State) : Host.Outcome State Fault Refusal :=
  .next (runRequest p client 0x21 payload (setTiersEvent payload) s)

/-! ## SET_MONITOR (R181, R140) -/

/-- A LIMIT pin whose active level changes returns to not asserted with no last sample (R140 step 4). -/
def limitAfter (old new : LimitSetting) (p : LimitPin) : LimitPin :=
  if old.activeLow = new.activeLow then p else { lastSample := none, asserted := false }

/-- The supply tier unit's own changes at a SET_MONITOR: counters cleared, supply tier and band 0 if the monitor is now
disabled, changed LIMIT pins returned (R140 steps 2 to 4, R137). -/
def monitorStep (old new : Monitor) (u : TierUnit) : TierUnit :=
  { u with
    supplyTier := if new.enabled then u.supplyTier else 0
    band := if new.enabled then u.band else 0
    down := 0, up := 0
    limit0 := limitAfter old.limit0 new.limit0 u.limit0
    limit1 := limitAfter old.limit1 new.limit1 u.limit1 }

/-- The new settings are taken and the effective tier recomputed (R140). -/
def State.setMonitor (s : State) (m : Monitor) : State :=
  State.recomputeTier
    { s with config := { s.config with monitor := m }, supply := monitorStep s.config.monitor m s.supply }

/-- SET_MONITOR after the common checks: the answer carries the effective tier after the request (R181). -/
def setMonitorEvent (payload : List Byte) (t : Taken) (s : State) : State :=
  if s.running then answer t .wrongMode [] s
  else
    match readMonitor payload with
    | none => answer t .badArg [] s
    | some m => answer t .ok (put8 (s.setMonitor m).supply.effective.val) (s.setMonitor m)

/-- SET_MONITOR (R181). -/
def execSetMonitor (p : Port) (client : Byte) (payload : List Byte) (s : State) : Host.Outcome State Fault Refusal :=
  .next (runRequest p client 0x22 payload (setMonitorEvent payload) s)

/-! ## SET_FRAME (R182, R154) -/

/-- A channel when the timer restarts: the frame cut short is over, the frame that begins was not captured, and the samples of
the frame cut short are discarded (R154, R162). -/
def ChannelUnit.cutShort (u : ChannelUnit) : ChannelUnit := { u.clearSamples with captured := none }

/-- The frame timer restarts: the frame ends without a frame start (R154). The samples of an ended frame whose frame start the
engine has still to take are not of the frame cut short and stay (notes/assumptions/14.md). -/
def State.restartTimer (s : State) : State :=
  { s with
    timer := { step := 0, frameCount := 0 }
    engine := if s.events.engineFrames = 0 then Vector.ofFn fun ch => s.engine[ch].cutShort else s.engine }

/-- D and L are set and the timer restarts (R182). -/
def State.setFrame (s : State) (d l : Nat) : State :=
  State.restartTimer { s with config := { s.config with divider := d, leaseExponent := l } }

/-- SET_FRAME after the common checks: D and L are echoed. -/
def setFrameEvent (payload : List Byte) (t : Taken) (s : State) : State :=
  if s.running then answer t .wrongMode [] s
  else
    match readFrame payload with
    | none => answer t .badArg [] s
    | some (d, l) => answer t .ok (put8 d ++ put8 l) (s.setFrame d l)

/-- SET_FRAME (R182). -/
def execSetFrame (p : Port) (client : Byte) (payload : List Byte) (s : State) : Host.Outcome State Fault Refusal :=
  .next (runRequest p client 0x23 payload (setFrameEvent payload) s)

/-! ## START (R171, R172) -/

/-- The enabled channels. -/
def enabledCount (c : Configuration) : Nat := (allChannels.filter fun ch => c.profiles[ch].enabled).length

/-- A tier's ceilings are at most those of the tier before it. -/
def ceilingsWithin (before after : Ceilings) : Bool := decide (after.peak ≤ before.peak ∧ after.charge ≤ before.charge)

/-- The lowest-numbered tier whose peak or charge ceiling is above that of the tier before it (R171). -/
def tierOutOfOrder (t : TierTable) : Option Nat :=
  if !ceilingsWithin t.tier0 t.tier1 then some 1
  else if !ceilingsWithin t.tier1 t.tier2 then some 2
  else none

/-- START after the common checks (R171, R172). -/
def startEvent (t : Taken) (s : State) : State :=
  if s.running then answer t .wrongMode [] s
  else if enabledCount s.config = 0 then answer t .badConfigNoChannel [] s
  else
    match tierOutOfOrder s.config.tiers with
    | some n => answer t .badConfigTiers (put8 n) s
    | none =>
      answer t .ok (put8 s.supply.effective.val ++ put8 s.ctl.tierInForce.val ++ put8 (enabledCount s.config))
        { s with config := { s.config with mode := .run } }

/-- START (R171). -/
def execStart (p : Port) (client : Byte) (payload : List Byte) (s : State) : Host.Outcome State Fault Refusal :=
  .next (runRequest p client 0x28 payload startEvent s)

/-! ## STOP (R173) -/

/-- Every window becomes none at once (R161). -/
def State.blankAll (s : State) : State := { s with engine := Vector.ofFn fun ch => { s.engine[ch] with window := none } }

/-- A slot freed, or left as it is when it is FREE (R2, R15). -/
def Slot.freed (x : Slot) : Slot := if x.grant.isSome then { generation := x.generation + 1, grant := none } else x

/-- Every non-FREE slot becomes FREE; lists, map and charge are emptied (R173 step 4). -/
def Controller.freeAll (c : Controller) : Controller :=
  { c with table := Vector.ofFn fun i => c.table[i].freed, waiting := [], admission := [],
           loadMap := Vector.replicate 64 0, totalCharge := 0 }

/-- STOP's changes (R173 steps 1 to 4). -/
def State.stopAll (s : State) : State :=
  let s1 := s.abandon .wrongMode
  let s2 := State.blankAll { s1 with config := { s1.config with mode := .config } }
  (s2.withCtl s2.ctl.freeAll).refreshAlerts

/-- STOP after the common checks: the answer carries the number of slots freed. -/
def stopEvent (t : Taken) (s : State) : State :=
  if s.running then answer t .ok (put8 s.ctl.occupied) s.stopAll else answer t .wrongMode [] s

/-- STOP (R173). -/
def execStop (p : Port) (client : Byte) (payload : List Byte) (s : State) : Host.Outcome State Fault Refusal :=
  .next (runRequest p client 0x29 payload stopEvent s)

/-! ## CLEAR (R175) -/

/-- The grant controller after a CLEAR: every slot FREE, tier in force TIER0 with the default ceilings; the plan serial is
kept (R175 step 6). -/
def Controller.clearAll (c : Controller) : Controller := c.freeAll.loadTier TierTable.reset 0

/-- CLEAR's changes (R175 steps 1 to 6). -/
def State.clearPart (s : State) : State :=
  let s1 := s.abandon .wrongMode
  State.refreshAlerts
    { s1 with
      config := Configuration.reset
      engine := Vector.replicate 16 ChannelUnit.reset
      timer := { step := 0, frameCount := 0 }
      supply := TierUnit.reset
      ctl := s1.ctl.clearAll }

/-- CLEAR after the common checks: taken in both modes and answered OK with the number of slots freed. -/
def clearEvent (t : Taken) (s : State) : State := answer t .ok (put8 s.ctl.occupied) s.clearPart

/-- CLEAR (R175). -/
def execClear (p : Port) (client : Byte) (payload : List Byte) (s : State) : Host.Outcome State Fault Refusal :=
  .next (runRequest p client 0x2A payload clearEvent s)

end Sys2Proof.Machine
end

