-- ==== Sys2Proof/Machine/Happenings.lean ====
section
/-! DEFINITION. The events the grant controller takes from other blocks: LEASE_TICK and LEASE_EXPIRY (chapter 6),
RAMP_COMPLETE (chapter 5) and CHANNEL_FAULT (chapter 8); and the hard reset and its end. -/

namespace Sys2Proof.Machine

/-! ## Lease ticks (R115) -/

/-- The lease of a living grant counts; the tick lowers its lease remaining to this value (R115). -/
def Grant.leaseAfterTick (g : Grant) : Option Nat := if g.isLiving then g.leaseRemaining.map (· - 1) else none

/-- The tick brings this slot's lease remaining to 0 (R115). -/
def Controller.expiresAtTick (c : Controller) (i : SlotIx) : Bool :=
  (c.grantAt i).any fun g => g.leaseAfterTick == some 0

/-- The tick at one slot: the lease remaining is lowered, and a grant whose lease runs out is retired EXPIRED, the repack that
adjusts it being abandoned first (R115, R116). -/
def State.tickSlot (s : State) (i : SlotIx) : State :=
  match s.ctl.grantAt i with
  | none => s
  | some g =>
    match g.leaseAfterTick with
    | none => s
    | some n =>
      let s' := s.withCtl (s.ctl.putGrant i { g with leaseRemaining := some n })
      if n = 0 then s'.retireGrant i .expired else s'

/-- The tick expires at least one grant that is ACTIVE or DEFERRED, or whose ADJUST is in flight (R71, R96). -/
def Controller.tickTriggers (c : Controller) : Bool :=
  allSlots.any fun i => c.expiresAtTick i && (((c.grantAt i).any Grant.holds) || c.adjusting i)

/-- The tick over every slot, in ascending order, with its retry pass and the summaries (R115). -/
def State.tickAll (s : State) : State := (allSlots.foldl State.tickSlot s).settle s.ctl.tickTriggers

/-- The grant controller takes one raised lease tick, if there is one; in CONFIG it changes nothing (R115). -/
def State.takeLeaseTick (s : State) : State :=
  match s.events.leaseTicks with
  | 0 => s
  | n + 1 =>
    let s' := { s with events := { s.events with leaseTicks := n } }
    if s.running then s'.tickAll else s'

/-- LEASE_TICK (R115). -/
def execLeaseTick (s : State) : Host.Outcome State Fault Refusal := .next s.takeLeaseTick

/-- LEASE_EXPIRY (R116): the lease tick that brings this slot's lease remaining to 0 (notes/assumptions/4.md). -/
def execLeaseExpiry (i : SlotIx) (s : State) : Host.Outcome State Fault Refusal :=
  if s.running && s.ctl.expiresAtTick i then .next s.takeLeaseTick else .next s

/-! ## Ramp completion (R107, R108) -/

/-- The conditions under which a ramp complete takes effect (R107). -/
def rampTakesEffect (g : Grant) (duty : Nat) : Bool :=
  g.isActive && g.targetDuty == duty && g.presentDuty == g.targetDuty

/-- The controller's changes at a ramp complete that takes effect: shrink, RAMP_DONE, retry pass (R107 steps 1 to 3). -/
def State.rampDone (s : State) (i : SlotIx) (g : Grant) : State :=
  let keep := footprint g.targetDuty
  let c := if keep < g.room then s.ctl.resize s.config.profiles i keep else s.ctl
  let c' := match c.grantAt i with
    | some g' => if g'.rampNotify then c.putGrant i { g' with notices := { g'.notices with rampDone := true } } else c
    | none => c
  (s.withCtl c').settle (decide (keep < g.room))

/-- RAMP_COMPLETE (R107): one raised event is taken; one that does not meet the conditions is ignored (R108), and in CONFIG it
has no effect (R169). -/
def execRampComplete (handle duty : Nat) (s : State) : Host.Outcome State Fault Refusal :=
  if s.events.rampCompletes.contains ⟨handle, duty⟩ then
    let s' := { s with events := { s.events with rampCompletes := s.events.rampCompletes.erase ⟨handle, duty⟩ } }
    match s.running, s.ctl.lookup handle with
    | true, some (i, g) => if rampTakesEffect g duty then .next (s'.rampDone i g) else .next s'
    | _, _ => .next s'
  else .next s

/-! ## Channel fault (R165) -/

/-- The living grants of a channel in the order a fault closes them: the holder, then the QUEUED grants in waiting list order
(R165). -/
def Controller.faultOrder (c : Controller) (ch : Channel) : List SlotIx :=
  (c.holder ch).toList ++ c.waiting.filter fun i => (c.grantAt i).any fun g => g.isQueued && g.channel == ch

/-- The channel is the requested channel of a held GRANT. -/
def Controller.requestedChannel (c : Controller) (ch : Channel) : Bool :=
  c.inFlight && c.held.any fun h => match h.kind with | .grant ch' _ _ _ => ch' == ch | .adjust .. => false

/-- The fault abandons the repack in flight: it is on the requested channel, or closes the adjusted grant (R165 step 1). -/
def Controller.faultAbandons (c : Controller) (ch : Channel) : Bool :=
  c.requestedChannel ch || (c.faultOrder ch).any c.adjusting

/-- Every living grant of the channel is closed, the repack it concerns abandoned first, and a retry pass follows if anything
was closed or abandoned (R165). -/
def State.closeChannel (s : State) (ch : Channel) : State :=
  let abandons := s.ctl.faultAbandons ch
  let s' := if abandons then s.abandon (.noRoom .repackAbandoned) else s
  let slots := s'.ctl.faultOrder ch
  (s'.withCtl (slots.foldl (fun c i => c.retire s'.config.profiles i .channelFault) s'.ctl)).settle
    (!slots.isEmpty || abandons)

/-- CHANNEL_FAULT (R165): one raised event is taken; in CONFIG it changes nothing at the controller. -/
def execChannelFault (ch : Channel) (s : State) : Host.Outcome State Fault Refusal :=
  if s.events.channelFaults.contains ch then
    let s' := { s with events := { s.events with channelFaults := s.events.channelFaults.erase ch } }
    if s.running then .next (s'.closeChannel ch) else .next s'
  else .next s

/-! ## Hard reset (R185) -/

/-- The machine while RESET_N is low: every block at its hard reset values; the commands that wait are not the machine's. -/
def State.held (s : State) : State := { State.reset with inReset := true, pending := s.pending }

/-- HARD_RESET (R185, R186). -/
def execHardReset (s : State) : Host.Outcome State Fault Refusal := .next s.held

/-- Port B's address: 0x2C plus ADDR1 as the upper bit and ADDR0 as the lower (R191). -/
def latchedAddress (addr1 addr0 : Bool) : BitVec 7 :=
  Config.i2cBase + BitVec.ofNat 7 (2 * addr1.toNat + addr0.toNat)

/-- RESET_END (R154, R191, R186): the first frame begins, the address is latched, requests are taken, and a transaction on the
wire is ignored to its end. It ends a reset and nothing else. -/
def execResetEnd (addr1 addr0 onWireA onWireB : Bool) (s : State) : Host.Outcome State Fault Refusal :=
  if s.inReset then
    .next { s with inReset := false, addressB := latchedAddress addr1 addr0,
                   portA := { s.portA with ignoring := onWireA }, portB := { s.portB with ignoring := onWireB } }
  else .next s

end Sys2Proof.Machine
end

