-- ==== Sys2Proof/Machine/Dispatch.lean ====
section
/-! DEFINITION. The meaning of every command: one arm for each row of the table. -/

namespace Sys2Proof.Machine

def exec (i : Instr) (s : State) : Host.Outcome State Fault Refusal :=
  match i with
  | .requestTransaction mosi => Sys2Proof.Machine.execRequestTransaction mosi s
  | .readTransaction clocked => Sys2Proof.Machine.execReadTransaction clocked s
  | .i2cWriteTransaction address bytes => Sys2Proof.Machine.execI2cWriteTransaction address bytes s
  | .i2cReadTransaction address clocked => Sys2Proof.Machine.execI2cReadTransaction address clocked s
  | .unknownRequest port client code payload => Sys2Proof.Machine.execUnknownRequest port client code payload s
  | .grant port client payload => Sys2Proof.Machine.execGrant port client payload s
  | .adjust port client payload => Sys2Proof.Machine.execAdjust port client payload s
  | .renew port client payload => Sys2Proof.Machine.execRenew port client payload s
  | .release port client payload => Sys2Proof.Machine.execRelease port client payload s
  | .ack port client payload => Sys2Proof.Machine.execAck port client payload s
  | .revoke port client payload => Sys2Proof.Machine.execRevoke port client payload s
  | .dropClient port client payload => Sys2Proof.Machine.execDropClient port client payload s
  | .query port client payload => Sys2Proof.Machine.execQuery port client payload s
  | .list port client payload => Sys2Proof.Machine.execList port client payload s
  | .mapRead port client payload => Sys2Proof.Machine.execMapRead port client payload s
  | .clearFault port client payload => Sys2Proof.Machine.execClearFault port client payload s
  | .status port client payload => Sys2Proof.Machine.execStatus port client payload s
  | .getProfile port client payload => Sys2Proof.Machine.execGetProfile port client payload s
  | .setProfile port client payload => Sys2Proof.Machine.execSetProfile port client payload s
  | .setTiers port client payload => Sys2Proof.Machine.execSetTiers port client payload s
  | .setMonitor port client payload => Sys2Proof.Machine.execSetMonitor port client payload s
  | .setFrame port client payload => Sys2Proof.Machine.execSetFrame port client payload s
  | .start port client payload => Sys2Proof.Machine.execStart port client payload s
  | .stop port client payload => Sys2Proof.Machine.execStop port client payload s
  | .clear port client payload => Sys2Proof.Machine.execClear port client payload s
  | .frameStart => Sys2Proof.Machine.execFrameStart s
  | .engineFrameStart => Sys2Proof.Machine.execEngineFrameStart s
  | .channelBecomesFaulted channel => Sys2Proof.Machine.execChannelBecomesFaulted channel s
  | .readbackSample channel pinHigh => Sys2Proof.Machine.execReadbackSample channel pinHigh s
  | .sample sense limits => Sys2Proof.Machine.execSample sense limits s
  | .downDebounce sense limits => Sys2Proof.Machine.execDownDebounce sense limits s
  | .upHoldOff sense limits => Sys2Proof.Machine.execUpHoldOff sense limits s
  | .leaseTick => Sys2Proof.Machine.execLeaseTick s
  | .leaseExpiry slot => Sys2Proof.Machine.execLeaseExpiry slot s
  | .rampComplete handle duty => Sys2Proof.Machine.execRampComplete handle duty s
  | .channelFault channel => Sys2Proof.Machine.execChannelFault channel s
  | .tierChange => Sys2Proof.Machine.execTierChange s
  | .planComplete serial => Sys2Proof.Machine.execPlanComplete serial s
  | .planFailed serial => Sys2Proof.Machine.execPlanFailed serial s
  | .repackApply => Sys2Proof.Machine.execRepackApply s
  | .hardReset => Sys2Proof.Machine.execHardReset s
  | .resetEnd addr1 addr0 onWireA onWireB => Sys2Proof.Machine.execResetEnd addr1 addr0 onWireA onWireB s
  | .stepCounterAdvance => Sys2Proof.Machine.execStepCounterAdvance s
  | .unknownTransactionKind kind clocked => Sys2Proof.Machine.execUnknownTransactionKind kind clocked s

end Sys2Proof.Machine
end

