-- ==== Sys2Proof/Safety.lean ====
section
/-! DEFINITION. What a sound state of the block is, in the terms the statements use: the laws the spec prints in bold, each
with what it needs to be kept by every step; and the words in which a statement says what a command left alone. -/

namespace Sys2Proof.Safety

open Sys2Proof.Machine

/-! ## Laws of the state -/

/-- The port's state follows its holders: IDLE has both empty, IN_FLIGHT has a request and no response, READY has a response
and no request (R186). -/
def portConsistent (u : PortUnit) : Prop :=
  (u.state = .idle → u.request = none ∧ u.response = none) ∧
  (u.state = .inFlight → u.request.isSome = true ∧ u.response = none) ∧
  (u.state = .ready → u.request = none ∧ u.response.isSome = true)

/-- Both ports' states follow their holders (R186). -/
def PortsConsistent (s : State) : Prop := portConsistent s.portA ∧ portConsistent s.portB

/-- A channel is OK with a count of 0, 1 or 2, or FAULTED with a count of 3 (R155). -/
def FaultPairing (s : State) : Prop :=
  ∀ ch : Channel, (s.engine[ch].fault = .ok ∧ s.engine[ch].mismatches ≤ 2) ∨
    (s.engine[ch].fault = .faulted ∧ s.engine[ch].mismatches = 3)

/-- In CONFIG every grant slot is FREE and no repack is in flight (R169). -/
def ConfigEmpty (s : State) : Prop :=
  s.config.mode = .config → (∀ i : SlotIx, s.ctl.grantAt i = none) ∧ s.ctl.inFlight = false

/-- The waiting list holds every DEFERRED and QUEUED grant, each once, and no other, in non-increasing order of priority
(R19); the admission list holds every ACTIVE grant, each once, and no other (R22). -/
def ListsExact (c : Controller) : Prop :=
  c.waiting.Nodup ∧ c.admission.Nodup ∧
  (∀ i : SlotIx, i ∈ c.waiting ↔ (c.grantAt i).any Grant.waits = true) ∧
  (∀ i : SlotIx, i ∈ c.admission ↔ (c.grantAt i).any Grant.isActive = true) ∧
  c.waiting.Pairwise fun i j => c.priorityAt j ≤ c.priorityAt i

/-- Each summary is true exactly while some non-FREE grant of the port's clients has a non-empty notice set, and the port's
ALERT line is asserted exactly then (R25, R196). -/
def AlertsExact (s : State) : Prop :=
  s.ctl.summaryA = s.ctl.noticePending .a ∧ s.portA.alertLow = s.ctl.noticePending .a ∧
  s.ctl.summaryB = s.ctl.noticePending .b ∧ s.portB.alertLow = s.ctl.noticePending .b

/-- The repack in flight is a GRANT for this channel by this client. -/
def grantHeldFor (c : Controller) (client : Client) (ch : Channel) : Prop :=
  c.inFlight = true ∧ ∃ h, c.held = some h ∧ h.client = client ∧ ∃ p d l, h.kind = .grant ch p d l

/-- A channel has at most one holder (R12), and the requested channel of a held GRANT has none. -/
def OneHolder (c : Controller) : Prop :=
  (∀ i j : SlotIx, ∀ gi gj : Grant, c.grantAt i = some gi → c.grantAt j = some gj → gi.holds = true → gj.holds = true →
    gi.channel = gj.channel → i = j) ∧
  (∀ client ch, grantHeldFor c client ch → ∀ i : SlotIx, ∀ g : Grant, c.grantAt i = some g → g.holds = true →
    g.channel ≠ ch)

/-- No client has more than one grant in ACTIVE, DEFERRED or QUEUED on the same channel (R53), and the client of a held GRANT
has none on the requested channel. -/
def OneLivingPerClient (c : Controller) : Prop :=
  (∀ i j : SlotIx, ∀ gi gj : Grant, c.grantAt i = some gi → c.grantAt j = some gj → gi.isLiving = true →
    gj.isLiving = true → gi.owner = gj.owner → gi.channel = gj.channel → i = j) ∧
  (∀ client ch, grantHeldFor c client ch → ∀ i : SlotIx, ∀ g : Grant, c.grantAt i = some g → g.isLiving = true →
    g.owner = client → g.channel ≠ ch)

/-- While the tier in force is TIER3 and the device is in RUN, no grant is ACTIVE (R143), and no repack is in flight. -/
def Tier3Empty (s : State) : Prop :=
  s.config.mode = .run → s.ctl.tierInForce = 3 →
    (∀ i : SlotIx, (s.ctl.grantAt i).any Grant.isActive = false) ∧ s.ctl.inFlight = false

/-- Every duty is at most 2048 and every reservation at most 64 segments (R4), the held request's included. -/
def RangesKept (c : Controller) : Prop :=
  (∀ i : SlotIx, ∀ g : Grant, c.grantAt i = some g → g.targetDuty ≤ 2048 ∧ g.presentDuty ≤ 2048 ∧ g.room ≤ 64) ∧
  (c.inFlight = true → ∀ h, c.held = some h → h.needed ≤ 64 ∧
    match h.kind with
    | .grant _ _ d _ => d ≤ 2048
    | .adjust _ t => t ≤ 2048)

/-- Every load map entry is the summed current of the ACTIVE grants whose reservations cover the segment, and the total charge
is the sum of current × reservation (R35, R36). -/
def MapExact (s : State) : Prop :=
  (∀ k : Segment, s.ctl.loadMap[k] = (allSlots.map (s.ctl.loadFrom s.config.profiles k)).sum) ∧
  s.ctl.totalCharge = (allSlots.map (s.ctl.chargeFrom s.config.profiles)).sum

/-- The account of the frame is exact: what every step keeps together (R35, R36, R37, R169). -/
def RoomExact (s : State) : Prop := ConfigEmpty s ∧ RangesKept s.ctl ∧ MapExact s

/-- The load map and the total charge lie within the ceilings in force (R35, R36). -/
def WithinCeilings (c : Controller) : Prop :=
  (∀ k : Segment, c.loadMap[k] ≤ c.peakInForce) ∧ c.totalCharge ≤ c.chargeInForce

/-- A grant's duties stay at or below the max duty of its channel's profile, and an ACTIVE grant's reservation covers both
duties (R98). -/
def grantBounded (profiles : Vector Profile 16) (g : Grant) : Prop :=
  g.targetDuty ≤ profiles[g.channel].maxDuty ∧ g.presentDuty ≤ profiles[g.channel].maxDuty ∧
  (g.isActive = true → footprint g.presentDuty ≤ g.room ∧ footprint g.targetDuty ≤ g.room)

/-- What the held request brings keeps the bound: a GRANT's duty and an ADJUST's target are at most the max duty, the needed
footprint is theirs, and the adjusted grant's present reservation is at most it (R80, R112). -/
def heldBounded (profiles : Vector Profile 16) (c : Controller) : Prop :=
  c.inFlight = true → ∀ h, c.held = some h →
    match h.kind with
    | .grant ch _ d _ => d ≤ profiles[ch].maxDuty ∧ h.needed = footprint d
    | .adjust handle t => h.needed = footprint t ∧ ∀ i g, c.lookup handle = some (i, g) →
        t ≤ profiles[g.channel].maxDuty ∧ g.room ≤ h.needed

/-- The reservation bound (R98), with what every step needs to keep it. -/
def ReservationBound (s : State) : Prop :=
  ConfigEmpty s ∧ heldBounded s.config.profiles s.ctl ∧
  ∀ i : SlotIx, ∀ g : Grant, s.ctl.grantAt i = some g → grantBounded s.config.profiles g

/-- The ceilings in force are those of the tier in force (R42, R43, R44). -/
def CeilingsLoaded (s : State) : Prop :=
  s.ctl.peakInForce = (tierCeilings s.config.tiers s.ctl.tierInForce).peak ∧
  s.ctl.chargeInForce = (tierCeilings s.config.tiers s.ctl.tierInForce).charge

/-- In RUN the tier table is non-increasing (R171). -/
def TiersDescend (s : State) : Prop :=
  s.config.mode = .run →
    s.config.tiers.tier1.peak ≤ s.config.tiers.tier0.peak ∧ s.config.tiers.tier1.charge ≤ s.config.tiers.tier0.charge ∧
    s.config.tiers.tier2.peak ≤ s.config.tiers.tier1.peak ∧ s.config.tiers.tier2.charge ≤ s.config.tiers.tier1.charge

/-- An ACTIVE grant on a pinned channel starts at the channel's home segment (R60), with what every step needs to keep it: the
plan of the repack in flight has the home segment for every pinned channel it places. -/
def PinnedHome (s : State) : Prop :=
  ConfigEmpty s ∧
  (∀ (i : SlotIx) (g : Grant) (start : Segment) (r : Nat), s.ctl.grantAt i = some g → g.state = .active start r →
    s.config.profiles[g.channel].pinned = true → start = s.config.profiles[g.channel].home) ∧
  (s.ctl.inFlight = true → ∀ h plan, s.ctl.held = some h → s.planner.plan = some plan → ∀ q ∈ plan,
    (∀ (i : SlotIx) (g : Grant), q.entry.slot = some i → s.ctl.grantAt i = some g → g.isActive = true →
      s.config.profiles[g.channel].pinned = true → q.start = s.config.profiles[g.channel].home) ∧
    (q.entry.slot = none → ∀ ch prio duty lease, h.kind = .grant ch prio duty lease →
      s.config.profiles[ch].pinned = true → q.start = s.config.profiles[ch].home))

/-- What the proposals of a plan put into a segment. -/
def planLoad (plan : List Proposal) (k : Segment) : Nat :=
  (plan.map fun q => if covers q.start q.entry.footprint k then q.entry.current else 0).sum

/-- What the proposals of a plan put into the charge. -/
def planCharge (plan : List Proposal) : Nat := (plan.map fun q => q.entry.current * q.entry.footprint).sum

/-- The plan of the repack in flight can be applied (R89): it fits ceilings at most those in force; each of its slots is named
once; every ACTIVE grant is in it with its current and at least its reservation, the adjusted grant with at least its need;
and the requested grant of a GRANT is in it with its current and at least its need. -/
def PlanSound (s : State) : Prop :=
  s.ctl.inFlight = true → ∀ h plan, s.ctl.held = some h → s.planner.plan = some plan →
    (∀ k : Segment, planLoad plan k ≤ s.ctl.peakInForce) ∧ planCharge plan ≤ s.ctl.chargeInForce ∧
    (plan.map fun q => q.entry.slot).Nodup ∧
    (∀ i : SlotIx, ∀ g : Grant, s.ctl.grantAt i = some g → g.isActive = true → ∃ q ∈ plan, q.entry.slot = some i ∧
      q.entry.current = currentOf s.config.profiles g.channel ∧ g.room ≤ q.entry.footprint ∧
      (s.ctl.adjusting i = true → h.needed ≤ q.entry.footprint)) ∧
    (match h.kind with
     | .grant ch _ _ _ => ∃ q ∈ plan, q.entry.slot = none ∧ q.entry.current = currentOf s.config.profiles ch ∧
         h.needed ≤ q.entry.footprint
     | .adjust _ _ => True)

/-- The place of an entry in the planner's order against one that comes later (R83): pinned channels first, by channel number;
then by footprint, current and priority descending, then by slot ascending, the requested grant after every slot. -/
def PlacedBefore (a b : PlanEntry) : Prop :=
  let place (e : PlanEntry) : Nat := match e.slot with | some i => i.val | none => 32
  (b.pinned = true → a.pinned = true ∧ a.channel.val ≤ b.channel.val) ∧
  (a.pinned = false → b.pinned = false →
    b.footprint < a.footprint ∨ (b.footprint = a.footprint ∧
      (b.current < a.current ∨ (b.current = a.current ∧
        (b.priority < a.priority ∨ (b.priority = a.priority ∧ place a ≤ place b))))))

/-- First-fit for an entry on the map and the charge that the proposals before it leave, under the copied ceilings (R84). -/
def fitAfter (peak charge : Nat) (placed : List Proposal) (e : PlanEntry) : Option Segment :=
  firstFit (Vector.ofFn fun k => planLoad placed k) (planCharge placed) peak charge e.current e.home e.pinned e.footprint

/-- Each proposal is the first-fit start of its entry after the proposals before it (R84). -/
def PlacedInTurn (peak charge : Nat) (plan : List Proposal) : Prop :=
  ∀ before q after, plan = before ++ q :: after → fitAfter peak charge before q.entry = some q.start

/-- The planner's outcome on an input set (R83, R84): the entries are taken in the order of R83; a plan places each of them in
turn; there is none exactly when an entry fits nowhere after those before it. -/
def PlansAs (input : List PlanEntry) (peak charge : Nat) (outcome : Option (List Proposal)) : Prop :=
  ∃ order : List PlanEntry, order.Perm input ∧ order.Pairwise PlacedBefore ∧
    match outcome with
    | some plan => plan.map Proposal.entry = order ∧ PlacedInTurn peak charge plan
    | none => ∃ placed e rest, order = placed.map Proposal.entry ++ e :: rest ∧ PlacedInTurn peak charge placed ∧
        fitAfter peak charge placed e = none

/-- An entry of the input set, with the items its channel's profile gives it (R81). -/
def inputEntry (profiles : Vector Profile 16) (slot : Option SlotIx) (ch : Channel) (priority : Priority) (f : Nat) :
    PlanEntry :=
  { slot := slot, channel := ch, current := profiles[ch].current, home := profiles[ch].home,
    pinned := profiles[ch].pinned, priority := priority, footprint := f }

/-- The input set's entries of the ACTIVE grants, each with its footprint (R81). -/
def activeInputs (s : State) (footprintAt : SlotIx → Grant → Nat) : List PlanEntry :=
  (List.finRange 32).filterMap fun i => (s.ctl.grantAt i).bind fun g =>
    if g.isActive then some (inputEntry s.config.profiles (some i) g.channel g.priority (footprintAt i g)) else none

/-- The load map and the total charge never exceed the ceilings in force (R35, R36, R89), with what every step needs to keep
it. -/
def CeilingsHeld (s : State) : Prop :=
  RoomExact s ∧ ListsExact s.ctl ∧ CeilingsLoaded s ∧ TiersDescend s ∧ PlanSound s ∧ WithinCeilings s.ctl

/-! ## The words of the statements -/

/-- The arbiter's next take is this request: nothing is in reset, it waits at the port, and the arbiter chooses the port
(R193). -/
def Takes (s : State) (p : Port) (client code : Byte) (payload : List Byte) : Prop :=
  s.takes p ⟨client, code, payload⟩ = true

/-- The state after a request that is answered and changes nothing but its port's holders and the preferred port (R193,
R195). -/
def answeredState (s : State) (p : Port) (client code : Byte) (r : Result) (payload : List Byte) : State :=
  { s.setPort p { s.port p with state := .ready, request := none, response := some ⟨client, code, r, payload⟩ } with
    preferred := otherPort p }

/-- The port is READY with this response (R195). -/
def Answered (t : State) (p : Port) (client code : Byte) (r : Result) (payload : List Byte) : Prop :=
  (t.port p).state = .ready ∧ (t.port p).request = none ∧ (t.port p).response = some ⟨client, code, r, payload⟩

/-- The port whose request started a repack is READY with the held response: client and code as echoes, this result, no payload
(R91, R195). -/
def AnsweredHeld (t : State) (h : HeldRequest) (r : Result) : Prop :=
  Answered t h.port (BitVec.ofNat 8 h.client.val) h.code r []

/-- The arbiter's next take is this request of this client, and it passes the common checks (R194). -/
def Served (s : State) (p : Port) (client code : Byte) (payload : List Byte) (who : Client) : Prop :=
  Takes s p client code payload ∧ clientOnPort p client = some who ∧ requestRefusal who code payload = none

/-- The device is in RUN and the handle names this grant in this slot (R14, R16). -/
def Names (s : State) (h : Nat) (i : SlotIx) (g : Grant) : Prop :=
  s.config.mode = .run ∧ s.ctl.lookup h = some (i, g)

/-- The channel has no holder (R12). -/
def NoHolder (c : Controller) (ch : Channel) : Prop :=
  ∀ i : SlotIx, ∀ g : Grant, c.grantAt i = some g → g.holds = true → g.channel ≠ ch

/-- The slot is the lowest-numbered FREE one (R3). -/
def LowestFree (c : Controller) (i : SlotIx) : Prop :=
  c.grantAt i = none ∧ ∀ j : SlotIx, j < i → c.grantAt j ≠ none

/-- A GRANT that passes steps 1 to 7 of R51, but for the FREE slot of step 6. -/
def GrantPasses (s : State) (p : Port) (client : Byte) (payload : List Byte) (who : Client) (a : GrantArgs) : Prop :=
  Served s p client 0x01 payload who ∧ s.config.mode = .run ∧ readGrant payload = some a ∧
  s.config.profiles[a.channel].enabled = true ∧ s.engine[a.channel].fault = .ok ∧
  a.duty ≤ s.config.profiles[a.channel].maxDuty ∧
  (∀ i : SlotIx, ∀ g : Grant, s.ctl.grantAt i = some g → g.isLiving = true → g.owner = who → g.channel ≠ a.channel) ∧
  s.ctl.inFlight = false

/-- The record a GRANT creates (R3). -/
def createdRecord (s : State) (who : Client) (a : GrantArgs) (state : GrantState) : Grant :=
  { state := state, owner := who, channel := a.channel, priority := a.priority, targetDuty := a.duty, presentDuty := 0,
    rampRate := (match a.rate with | .steps n => n | .profileDefault => s.config.profiles[a.channel].defaultRamp),
    rampNotify := a.rampNotify, leaseLength := a.leaseLength,
    leaseRemaining := (if a.leaseLength = 0 then none else some a.leaseLength),
    notices := { admitted := false, shed := false, preempted := false, rampDone := false, closed := false } }

/-- A port is the same, but for its ALERT line. -/
def PortKept (s t : State) (p : Port) : Prop :=
  (t.port p).state = (s.port p).state ∧ (t.port p).request = (s.port p).request ∧
  (t.port p).response = (s.port p).response ∧ (t.port p).verdict = (s.port p).verdict ∧
  (t.port p).ignoring = (s.port p).ignoring ∧ (t.port p).wire = (s.port p).wire

/-- Every block but the grant controller, the ports and the arbiter is the same. -/
def BlocksKept (s t : State) : Prop :=
  t.inReset = s.inReset ∧ t.config = s.config ∧ t.planner = s.planner ∧ t.timer = s.timer ∧ t.engine = s.engine ∧
  t.supply = s.supply ∧ t.addressB = s.addressB ∧ t.events = s.events

/-- What a request of the grant controller leaves alone outside the controller: every other block, the other port but for its
ALERT line, the verdict and the wire of its own port, the commands that wait; and the arbiter now prefers the other port
(R193). -/
def RequestKept (s t : State) (p : Port) : Prop :=
  BlocksKept s t ∧ PortKept s t (otherPort p) ∧ (t.port p).verdict = (s.port p).verdict ∧
  (t.port p).ignoring = (s.port p).ignoring ∧ (t.port p).wire = (s.port p).wire ∧ t.preferred = otherPort p ∧
  t.pending = s.pending

/-- What an event of the grant controller leaves alone outside the controller and the events raised: every other block, both
ports but for their ALERT lines, the arbiter and the commands that wait. -/
def EventKept (s t : State) : Prop :=
  t.inReset = s.inReset ∧ t.config = s.config ∧ t.timer = s.timer ∧ t.engine = s.engine ∧ t.supply = s.supply ∧
  t.addressB = s.addressB ∧ t.preferred = s.preferred ∧ t.pending = s.pending ∧ PortKept s t .a ∧ PortKept s t .b

/-- What is left alone outside the controller and the two ports where a held request is answered: every other block but the plan,
which is dropped, the commands that wait, and the verdict and the wire of the port answered (R86, R91, R95). -/
def HeldAnswerKept (s t : State) (held : HeldRequest) : Prop :=
  t.inReset = s.inReset ∧ t.config = s.config ∧ t.planner = { s.planner with plan := none } ∧ t.timer = s.timer ∧
  t.engine = s.engine ∧ t.supply = s.supply ∧ t.addressB = s.addressB ∧ t.pending = s.pending ∧
  (t.port held.port).verdict = (s.port held.port).verdict ∧ (t.port held.port).ignoring = (s.port held.port).ignoring ∧
  (t.port held.port).wire = (s.port held.port).wire

/-- The same for an event of the grant controller: the arbiter too, and the other port but for its ALERT line. -/
def EventKeptHeldAnswered (s t : State) (held : HeldRequest) : Prop :=
  HeldAnswerKept s t held ∧ t.preferred = s.preferred ∧ PortKept s t (otherPort held.port)

/-- The same for a request on the other port: the events raised too, and the verdict and the wire of its own port; the arbiter
now prefers the port answered first (R193). -/
def RequestKeptHeldAnswered (s t : State) (p : Port) (held : HeldRequest) : Prop :=
  HeldAnswerKept s t held ∧ t.events = s.events ∧ t.preferred = otherPort p ∧ (t.port p).verdict = (s.port p).verdict ∧
  (t.port p).ignoring = (s.port p).ignoring ∧ (t.port p).wire = (s.port p).wire

/-- The two controllers are the same but for the notice summaries. -/
def SameButSummaries (c d : Controller) : Prop :=
  { c with summaryA := false, summaryB := false } = { d with summaryA := false, summaryB := false }

/-- The controller after its repack has ended or is abandoned: condition NONE, no held request (R86, R95). -/
def withoutRepack (c : Controller) : Controller := { c with repack := .idle, held := none }

/-- The lease of the slot's living grant runs out at the next tick (R115). -/
def leaseEnds (c : Controller) (i : SlotIx) : Prop :=
  ∃ g n, c.grantAt i = some g ∧ g.isLiving = true ∧ g.leaseRemaining = some n ∧ n ≤ 1

/-- A lease tick at one slot: the lease remaining falls by 1, and a grant that reaches 0 is retired EXPIRED (R115, R116). -/
def leaseTickSlot (profiles : Vector Profile 16) (c : Controller) (i : SlotIx) : Controller :=
  match c.grantAt i with
  | none => c
  | some g =>
    match g.isLiving, g.leaseRemaining with
    | true, some n =>
      let lowered := c.putGrant i { g with leaseRemaining := some (n - 1) }
      if n ≤ 1 then lowered.retire profiles i .expired else lowered
    | _, _ => c

/-- A lease tick at every slot, in ascending order (R115). -/
def leaseTickAll (profiles : Vector Profile 16) (c : Controller) : Controller :=
  (List.finRange 32).foldl (leaseTickSlot profiles) c

/-- The living grants of a channel as a fault closes them: the holder, then the QUEUED grants in waiting list order (R165). -/
def livingOnChannel (c : Controller) (ch : Channel) : List SlotIx :=
  ((List.finRange 32).filter fun i => (c.grantAt i).any fun g => g.holds && g.channel == ch) ++
    c.waiting.filter fun i => (c.grantAt i).any fun g => g.state == .queued && g.channel == ch

/-- The ceilings in force and the repack are the same. -/
def CeilingsAndRepackKept (c d : Controller) : Prop :=
  d.tierInForce = c.tierInForce ∧ d.peakInForce = c.peakInForce ∧ d.chargeInForce = c.chargeInForce ∧
  d.repack = c.repack ∧ d.held = c.held ∧ d.planSerial = c.planSerial

/-- The grant controller's room account, ceilings and repack are the same. -/
def AccountKept (c d : Controller) : Prop :=
  d.loadMap = c.loadMap ∧ d.totalCharge = c.totalCharge ∧ d.admission = c.admission ∧ d.tierInForce = c.tierInForce ∧
  d.peakInForce = c.peakInForce ∧ d.chargeInForce = c.chargeInForce ∧ d.repack = c.repack ∧ d.held = c.held ∧
  d.planSerial = c.planSerial

/-- Every slot but this one is the same. -/
def OtherSlotsKept (c d : Controller) (i : SlotIx) : Prop := ∀ j : SlotIx, j ≠ i → d.table[j] = c.table[j]

/-- Every slot but this one keeps its generation, and its whole content unless its grant waits (DEFERRED or QUEUED), in which
case a retry pass may have moved it. -/
def OtherSlotsKeptButWaiting (c d : Controller) (i : SlotIx) : Prop :=
  ∀ j : SlotIx, j ≠ i → d.table[j].generation = c.table[j].generation ∧
    ((c.grantAt j).any Grant.waits = false → d.grantAt j = c.grantAt j)

/-- A request frame: length, client, code, payload, check byte (R197). -/
def requestFrame (client code : Byte) (payload : List Byte) : List Byte :=
  let body := BitVec.ofNat 8 (2 + payload.length) :: client :: code :: payload
  body ++ [checkByte body]

/-- The command by which the arbiter takes a request of this code (R198). -/
def requestCommand (p : Port) (client code : Byte) (payload : List Byte) : Instr :=
  if code = 0x01 then .grant p client payload
  else if code = 0x02 then .adjust p client payload
  else if code = 0x03 then .renew p client payload
  else if code = 0x04 then .release p client payload
  else if code = 0x05 then .ack p client payload
  else if code = 0x06 then .revoke p client payload
  else if code = 0x07 then .dropClient p client payload
  else if code = 0x10 then .query p client payload
  else if code = 0x11 then .list p client payload
  else if code = 0x12 then .mapRead p client payload
  else if code = 0x18 then .clearFault p client payload
  else if code = 0x13 then .status p client payload
  else if code = 0x14 then .getProfile p client payload
  else if code = 0x20 then .setProfile p client payload
  else if code = 0x21 then .setTiers p client payload
  else if code = 0x22 then .setMonitor p client payload
  else if code = 0x23 then .setFrame p client payload
  else if code = 0x28 then .start p client payload
  else if code = 0x29 then .stop p client payload
  else if code = 0x2A then .clear p client payload
  else .unknownRequest p client code payload

/-- n successive steps of the step clock (R152). -/
def stepClock : Nat → State → Host.Outcome State Fault Refusal
  | 0, s => .next s
  | n + 1, s =>
    match exec .stepCounterAdvance s with
    | .next t => stepClock n t
    | .fault r => .fault r
    | .refused r => .refused r

/-- n captures of one ramp (R99). -/
def rampAfter (target rate : Nat) : Nat → Nat → Nat
  | 0, present => present
  | n + 1, present => rampAfter target rate n (rampStep present target rate)

end Sys2Proof.Safety
end

