-- ==== Sys2Proof/Certificates/Slice0/Obligations.lean ====
section
/-! DEFINITION. The statements for the provers, in the order of OBLIGATIONS.json. -/

open Sys2Proof Sys2Proof.Machine Sys2Proof.Safety

/-! ## The queue -/

/-- A step takes the command at the front of the queue and runs exec on it with the queue's rest; on an empty queue the block
idles (the model's choice, log entry 1). Every command answers a next state and leaves the queue alone: the part never
halts. -/
def Obligations.StepTakesFrontCommand : Prop :=
  (∀ (c : Instr) (rest : List Instr) (s : State), s.pending = c :: rest → step s = exec c { s with pending := rest }) ∧
  (∀ s : State, s.pending = [] → step s = .next s) ∧
  ∀ (c : Instr) (s : State), ∃ t : State, exec c s = .next t ∧ t.pending = s.pending

/-! ## Invariants that every step keeps -/

/-- Every step keeps both ports in one of the three pairings of R186, every channel's fault state with its count (R155), and
CONFIG without a grant or a repack (R169). -/
def Obligations.StatePairingsKept : Prop :=
  ∀ s t : State, PortsConsistent s ∧ FaultPairing s ∧ ConfigEmpty s → step s = .next t →
    PortsConsistent t ∧ FaultPairing t ∧ ConfigEmpty t

/-- Every step keeps the laws of the two lists: the waiting list holds every DEFERRED and QUEUED grant once and no other, in
non-increasing order of priority (R19); the admission list holds every ACTIVE grant once and no other (R22). -/
def Obligations.ListsKept : Prop :=
  ∀ s t : State, ListsExact s.ctl → step s = .next t → ListsExact t.ctl

/-- Every step keeps each notice summary and ALERT line asserted exactly while a grant of the port's clients has a notice
(R25, R196). -/
def Obligations.AlertsKept : Prop :=
  ∀ s t : State, AlertsExact s → step s = .next t → AlertsExact t

/-- Every step keeps at most one holder for each channel (R12), and at most one living grant of a client on a channel
(R53). -/
def Obligations.HoldersKept : Prop :=
  ∀ s t : State, OneHolder s.ctl ∧ OneLivingPerClient s.ctl → step s = .next t →
    OneHolder t.ctl ∧ OneLivingPerClient t.ctl

/-- Every step keeps the law of R143: while the tier in force is TIER3 and the device is in RUN, no grant is ACTIVE. The lists'
law and the emptiness of CONFIG are kept with it. -/
def Obligations.TierThreeKeptEmpty : Prop :=
  ∀ s t : State, ListsExact s.ctl ∧ ConfigEmpty s ∧ Tier3Empty s → step s = .next t →
    ListsExact t.ctl ∧ ConfigEmpty t ∧ Tier3Empty t

/-- Every step keeps the account of the frame exact: every load map entry and the total charge are the sums of R35 and R36
over the ACTIVE grants' reservations. -/
def Obligations.RoomAccountKept : Prop :=
  ∀ s t : State, RoomExact s → step s = .next t → RoomExact t

/-- Every step keeps the reservation bound (R98): an ACTIVE grant's reservation covers its present and its target duty, and
neither duty passes the max duty of the channel's profile. Every step keeps each ACTIVE grant on a pinned channel at the
channel's home segment, through placements, retry passes and the apply of a plan (R60). -/
def Obligations.ReservationBoundKept : Prop :=
  (∀ s t : State, ReservationBound s → step s = .next t → ReservationBound t) ∧
  ∀ s t : State, PinnedHome s → step s = .next t → PinnedHome t

/-- Every step keeps every load map entry within the peak ceiling in force and the total charge within the charge ceiling in
force (R35, R36), through placements, tier drops, and the apply of a plan (R89). -/
def Obligations.CeilingsKeptByEveryStep : Prop :=
  ∀ s t : State, CeilingsHeld s → step s = .next t → CeilingsHeld t

/-- The machine right after reset meets every invariant above. -/
def Obligations.ResetMeetsInvariants : Prop :=
  PortsConsistent State.reset ∧ FaultPairing State.reset ∧ ConfigEmpty State.reset ∧ ListsExact State.reset.ctl ∧
  AlertsExact State.reset ∧ OneHolder State.reset.ctl ∧ OneLivingPerClient State.reset.ctl ∧ Tier3Empty State.reset ∧
  RoomExact State.reset ∧ ReservationBound State.reset ∧ PinnedHome State.reset ∧ CeilingsHeld State.reset

/-- A slot's generation advances by 1 modulo 16 when the slot becomes FREE and at no other time, it is set to 0 by a hard
reset, and only a RELEASE, an ACK, a DROP_CLIENT, a STOP or a CLEAR frees a slot (R15, R17). -/
def Obligations.GenerationsAdvanceOnFreeing : Prop :=
  ∀ (c : Instr) (s t : State) (i : SlotIx), exec c s = .next t →
    (t.ctl.table[i].generation = s.ctl.table[i].generation ∧ (s.ctl.grantAt i ≠ none → t.ctl.grantAt i ≠ none)) ∨
    (s.ctl.grantAt i ≠ none ∧ t.ctl.grantAt i = none ∧ t.ctl.table[i].generation = s.ctl.table[i].generation + 1 ∧
      ((∃ p client pl, c = .release p client pl) ∨ (∃ p client pl, c = .ack p client pl) ∨
       (∃ p client pl, c = .dropClient p client pl) ∨ (∃ p client pl, c = .stop p client pl) ∨
       (∃ p client pl, c = .clear p client pl))) ∨
    (c = .hardReset ∧ t.ctl.table[i].generation = 0 ∧ t.ctl.grantAt i = none)

/-! ## Frames, payloads and the wire -/

/-- A request frame is read back as the request it carries, on Port B alone and on Port A with any bytes after it; a byte too
many on Port B, a byte too few, a length byte outside 2..26 or a wrong check byte is seen (R187, R197). The check byte's register
starts at all ones; each byte is XORed into it and shifted out most significant bit first, in eight shifts left, with 0x07 XORed
in after a shift that shifts out a 1 (R188). -/
def Obligations.RequestFramesRoundTrip : Prop :=
  (∀ (client code : Byte) (payload tail : List Byte), payload.length ≤ 24 →
    frameForm true (requestFrame client code payload) = .sound ⟨client, code, payload⟩ ∧
    frameForm false (requestFrame client code payload ++ tail) = .sound ⟨client, code, payload⟩ ∧
    (tail ≠ [] → frameForm true (requestFrame client code payload ++ tail) = .malformed) ∧
    (∀ n, n < payload.length + 4 → ∀ exact, frameForm exact ((requestFrame client code payload).take n) = .malformed) ∧
    (∀ x : Byte, x ≠ checkByte (BitVec.ofNat 8 (2 + payload.length) :: client :: code :: payload) →
      ∀ exact, frameForm exact (BitVec.ofNat 8 (2 + payload.length) :: client :: code :: payload ++ [x]) = .badCheck)) ∧
  (∀ (exact : Bool) (len : Byte) (rest : List Byte), len.toNat < 2 ∨ 26 < len.toNat →
    frameForm exact (len :: rest) = .malformed) ∧
  let shifted (r : Byte) : Byte := BitVec.ofNat 8 (2 * r.toNat % 256) ^^^ if 128 ≤ r.toNat then 0x07 else 0x00
  checkByte [] = 0xFF ∧
  ∀ (bytes : List Byte) (b : Byte), checkByte (bytes ++ [b]) =
    shifted (shifted (shifted (shifted (shifted (shifted (shifted (shifted (checkByte bytes ^^^ b))))))))

/-- Payloads are read as R199 lays them out: a profile record written by the part is read back whole (R179), and the bytes of
GRANT, ADJUST, ACK, SET_TIERS, SET_MONITOR, SET_FRAME and of every payload that is a handle, a client or a channel give the
arguments they spell. A payload is refused exactly when a value is above its range, a threshold, counter, current, duty or D is
below its own, the thresholds do not fall strictly, or a flag bit without a name is 1 (R16, R52, R123, R178, R180 to R182,
R199). -/
def Obligations.PayloadsReadAsLaidOut : Prop :=
  (∀ p : Profile, 1 ≤ p.current → p.current ≤ 250 → 1 ≤ p.maxDuty → p.maxDuty ≤ 2048 → p.defaultRamp ≤ 255 →
    readProfileRecord (profileRecord p) = some p ∧
    ∀ ch : Channel, readSetProfile (put8 ch.val ++ profileRecord p) = some (ch, p)) ∧
  (∀ (ch : Channel) (pr : Priority) (duty rate : Nat) (len : Byte) (preempt wait repack notify : Bool),
    duty ≤ 2048 → rate ≤ 256 →
    readGrant (put8 ch.val ++ put8 pr.val ++ put16 duty ++ put16 rate ++ [len] ++
        put8 (preempt.toNat + 2 * wait.toNat + 4 * repack.toNat + 8 * notify.toNat)) =
      some { channel := ch, priority := pr, duty := duty, rate := if rate = 256 then .profileDefault else .steps rate,
             leaseLength := len.toNat, preempt := preempt, wait := wait, allowRepack := repack, rampNotify := notify }) ∧
  (∀ (handle target rate : Nat) (repack notify : Bool), handle ≤ 511 → target ≤ 2048 → rate ≤ 256 →
    readAdjust (put16 handle ++ put16 target ++ put16 rate ++ put8 (4 * repack.toNat + 8 * notify.toNat)) =
      some { handle := handle, target := target, rate := if rate = 256 then .profileDefault else .steps rate,
             allowRepack := repack, rampNotify := notify }) ∧
  (∀ (handle : Nat) (admitted shed preempted rampDone closed : Bool), handle ≤ 511 →
    readHandle (put16 handle) = some handle ∧
    readAck (put16 handle ++ put8 (admitted.toNat + 2 * shed.toNat + 4 * preempted.toNat + 8 * rampDone.toNat +
        16 * closed.toNat)) =
      some (handle, { admitted := admitted, shed := shed, preempted := preempted, rampDone := rampDone, closed := closed })) ∧
  (∀ t : TierTable,
    t.tier0.peak ≤ 4000 → t.tier1.peak ≤ 4000 → t.tier2.peak ≤ 4000 →
    t.tier0.charge ≤ 256000 → t.tier1.charge ≤ 256000 → t.tier2.charge ≤ 256000 →
    readTiers (put16 t.tier0.peak ++ put24 t.tier0.charge ++ put16 t.tier1.peak ++ put24 t.tier1.charge ++
      put16 t.tier2.peak ++ put24 t.tier2.charge) = some t) ∧
  (∀ m : Monitor, 1 ≤ m.t3 → m.t3 < m.t2 → m.t2 < m.t1 → m.t1 ≤ 63 → m.hysteresis ≤ 7 → 1 ≤ m.nDown → m.nDown ≤ 15 →
    1 ≤ m.holdOff → m.holdOff ≤ 4095 →
    readMonitor (put8 (m.enabled.toNat + 2 * m.limit0.activeLow.toNat + 4 * m.limit1.activeLow.toNat) ++ put8 m.t1 ++
      put8 m.t2 ++ put8 m.t3 ++ put8 m.hysteresis ++ put8 m.nDown ++ put16 m.holdOff ++ put8 m.limit0.minTier.val ++
      put8 m.limit1.minTier.val) = some m) ∧
  (∀ n : Byte,
    (readClient [n]).map Fin.val = (if n.toNat < 8 then some n.toNat else none) ∧
    (readChannel [n]).map Fin.val = (if n.toNat < 16 then some n.toNat else none)) ∧
  (∀ d l : Byte, readFrame [d, l] =
    if 1 ≤ d.toNat ∧ d.toNat ≤ 64 ∧ l.toNat ≤ 7 then some (d.toNat, l.toNat) else none) ∧
  (∀ (handle duty rate : Nat) (ch pr len flags : Byte), handle < 65536 → duty < 65536 → rate < 65536 →
    (readHandle (put16 handle) = none ↔ 511 < handle) ∧
    (readGrant ([ch, pr] ++ put16 duty ++ put16 rate ++ [len, flags]) = none ↔
      16 ≤ ch.toNat ∨ 8 ≤ pr.toNat ∨ 2048 < duty ∨ 256 < rate ∨ 16 ≤ flags.toNat) ∧
    (readAdjust (put16 handle ++ put16 duty ++ put16 rate ++ [flags]) = none ↔
      511 < handle ∨ 2048 < duty ∨ 256 < rate ∨ 16 ≤ flags.toNat ∨ flags.toNat % 4 ≠ 0) ∧
    (readAck (put16 handle ++ [flags]) = none ↔ 511 < handle ∨ 32 ≤ flags.toNat)) ∧
  (∀ (ch flags current home ramp : Byte) (maxDuty : Nat), maxDuty < 65536 →
    (readSetProfile ([ch, flags, current] ++ put16 maxDuty ++ [home, ramp]) = none ↔
      16 ≤ ch.toNat ∨ 32 ≤ flags.toNat ∨ current.toNat = 0 ∨ 250 < current.toNat ∨ maxDuty = 0 ∨ 2048 < maxDuty ∨
        64 ≤ home.toNat)) ∧
  (∀ p0 c0 p1 c1 p2 c2 : Nat, p0 < 65536 → p1 < 65536 → p2 < 65536 → c0 < 16777216 → c1 < 16777216 → c2 < 16777216 →
    (readTiers (put16 p0 ++ put24 c0 ++ put16 p1 ++ put24 c1 ++ put16 p2 ++ put24 c2) = none ↔
      4000 < p0 ∨ 4000 < p1 ∨ 4000 < p2 ∨ 256000 < c0 ∨ 256000 < c1 ∨ 256000 < c2)) ∧
  ∀ (flags t1 t2 t3 h nDown m0 m1 : Byte) (holdOff : Nat), holdOff < 65536 →
    (readMonitor ([flags, t1, t2, t3, h, nDown] ++ put16 holdOff ++ [m0, m1]) = none ↔
      8 ≤ flags.toNat ∨ 63 < t1.toNat ∨ t1.toNat ≤ t2.toNat ∨ t2.toNat ≤ t3.toNat ∨ t3.toNat = 0 ∨ 7 < h.toNat ∨
        nDown.toNat = 0 ∨ 15 < nDown.toNat ∨ holdOff = 0 ∨ 4095 < holdOff ∨ 3 < m0.toNat ∨ 3 < m1.toNat)

/-- A sound request frame is accepted by a port that is not IN_FLIGHT: the request is held and waits, an unread response is
discarded, the verdict is ACCEPTED. Port A returns 0x81 in the byte after the check byte and 0xFF elsewhere; Port B
acknowledges its address and every byte (R186, R187, R189, R191). -/
def Obligations.SoundFramesAccepted : Prop :=
  (∀ (s : State) (client code : Byte) (payload tail : List Byte), s.inReset = false → s.portA.ignoring = false →
    s.portA.state ≠ .inFlight → payload.length ≤ 24 →
    exec (.requestTransaction (requestFrame client code payload ++ tail)) s = .next
      { s with portA := { s.portA with
          state := .inFlight, request := some ⟨⟨client, code, payload⟩, .waiting⟩, response := none,
          verdict := some .accepted,
          wire := ⟨[], List.replicate (payload.length + 5) 0xFF ++
            (match tail with | [] => [] | _ :: rest => 0x81 :: List.replicate rest.length 0xFF)⟩ } }) ∧
  ∀ (s : State) (client code : Byte) (payload : List Byte), s.inReset = false → s.portB.ignoring = false →
    s.portB.state ≠ .inFlight → payload.length ≤ 24 →
    exec (.i2cWriteTransaction s.addressB (requestFrame client code payload)) s = .next
      { s with portB := { s.portB with
          state := .inFlight, request := some ⟨⟨client, code, payload⟩, .waiting⟩, response := none,
          verdict := some .accepted, wire := ⟨List.replicate (payload.length + 5) true, []⟩ } }

/-- A frame that a port refuses changes its last link verdict and nothing else. On Port A: FRAME_ERROR for a length byte outside 2..26
(0x84 in the next byte) and for a frame cut short (no verdict byte), CHECK_FAIL before BUSY for the others (0x83, 0x82). An
unknown transaction kind is FRAME_ERROR and returns 0xFF alone. On Port B another address is not acknowledged; a write without
a byte is not judged; a port IN_FLIGHT answers BUSY and acknowledges no byte; a length byte outside 2..26 is FRAME_ERROR with no
byte acknowledged; an excess byte is FRAME_ERROR and not acknowledged; a frame cut short is FRAME_ERROR and a wrong check byte
CHECK_FAIL, every byte acknowledged (R187, R189 to R191). -/
def Obligations.PortsRefuseFrames : Prop :=
  (∀ (s : State) (len : Byte) (rest : List Byte), s.inReset = false → s.portA.ignoring = false →
    len.toNat < 2 ∨ 26 < len.toNat →
    exec (.requestTransaction (len :: rest)) s = .next
      { s with portA := { s.portA with verdict := some .frameError, wire := ⟨[], 0xFF :: 0xFF ::
          (match rest with | [] => [] | _ :: more => 0x84 :: List.replicate more.length 0xFF)⟩ } }) ∧
  (∀ (s : State) (client code : Byte) (payload : List Byte) (n : Nat), s.inReset = false → s.portA.ignoring = false →
    payload.length ≤ 24 → n < payload.length + 4 →
    exec (.requestTransaction ((requestFrame client code payload).take n)) s = .next
      { s with portA := { s.portA with verdict := some .frameError, wire := ⟨[], List.replicate (n + 1) 0xFF⟩ } }) ∧
  (∀ (s : State) (client code x after : Byte) (payload : List Byte), s.inReset = false → s.portA.ignoring = false →
    payload.length ≤ 24 →
    (x ≠ checkByte (BitVec.ofNat 8 (2 + payload.length) :: client :: code :: payload) →
      exec (.requestTransaction (BitVec.ofNat 8 (2 + payload.length) :: client :: code :: payload ++ [x, after])) s = .next
        { s with portA := { s.portA with verdict := some .checkFail,
                                         wire := ⟨[], List.replicate (payload.length + 5) 0xFF ++ [0x83]⟩ } }) ∧
    (s.portA.state = .inFlight →
      exec (.requestTransaction (requestFrame client code payload ++ [after])) s = .next
        { s with portA := { s.portA with verdict := some .busy,
                                         wire := ⟨[], List.replicate (payload.length + 5) 0xFF ++ [0x82]⟩ } })) ∧
  (∀ (s : State) (kind : Byte) (clocked : Nat), s.inReset = false → s.portA.ignoring = false → kind ≠ 0x3C → kind ≠ 0xC3 →
     exec (.unknownTransactionKind kind clocked) s = .next
       { s with portA := { s.portA with verdict := some .frameError, wire := ⟨[], List.replicate (clocked + 1) 0xFF⟩ } }) ∧
  ∀ s : State, s.inReset = false → s.portB.ignoring = false →
    (∀ (address : BitVec 7) (bytes : List Byte), address ≠ s.addressB →
      exec (.i2cWriteTransaction address bytes) s = .next { s with portB := { s.portB with wire := ⟨[false], []⟩ } }) ∧
    exec (.i2cWriteTransaction s.addressB []) s = .next { s with portB := { s.portB with wire := ⟨[true], []⟩ } } ∧
    (∀ (b : Byte) (bytes : List Byte), s.portB.state = .inFlight →
      exec (.i2cWriteTransaction s.addressB (b :: bytes)) s = .next
        { s with portB := { s.portB with verdict := some .busy,
                                         wire := ⟨true :: List.replicate (bytes.length + 1) false, []⟩ } }) ∧
    (s.portB.state ≠ .inFlight →
      (∀ (len : Byte) (rest : List Byte), len.toNat < 2 ∨ 26 < len.toNat →
        exec (.i2cWriteTransaction s.addressB (len :: rest)) s = .next
          { s with portB := { s.portB with verdict := some .frameError,
                                           wire := ⟨true :: List.replicate (rest.length + 1) false, []⟩ } }) ∧
      (∀ (client code : Byte) (payload tail : List Byte), payload.length ≤ 24 → tail ≠ [] →
        exec (.i2cWriteTransaction s.addressB (requestFrame client code payload ++ tail)) s = .next
          { s with portB := { s.portB with
              verdict := some .frameError
              wire := ⟨List.replicate (payload.length + 5) true ++ List.replicate tail.length false, []⟩ } }) ∧
      (∀ (client code : Byte) (payload : List Byte) (n : Nat), payload.length ≤ 24 → 0 < n → n < payload.length + 4 →
        exec (.i2cWriteTransaction s.addressB ((requestFrame client code payload).take n)) s = .next
          { s with portB := { s.portB with verdict := some .frameError, wire := ⟨List.replicate (n + 1) true, []⟩ } }) ∧
      ∀ (client code x : Byte) (payload : List Byte), payload.length ≤ 24 →
        x ≠ checkByte (BitVec.ofNat 8 (2 + payload.length) :: client :: code :: payload) →
        exec (.i2cWriteTransaction s.addressB (BitVec.ofNat 8 (2 + payload.length) :: client :: code :: payload ++ [x])) s =
          .next { s with portB := { s.portB with verdict := some .checkFail,
                                                 wire := ⟨List.replicate (payload.length + 5) true, []⟩ } })

/-- A read sends the port state byte first; a READY port sends its response frame after it, and 0xFF follows. The response is
delivered, and the port IDLE, when the check byte has been sent; a shorter read leaves it (R190, R192). The port state byte
has bits 7 and 6 at 1 and 0, the ALERT line in bit 5, the verdict in bits 4..2 and the state in bits 1..0 (R197). -/
def Obligations.ReadsDeliverResponses : Prop :=
  (∀ (s : State) (n : Nat), s.inReset = false → s.portA.ignoring = false →
    (s.portA.state ≠ .ready →
      exec (.readTransaction (n + 1)) s = .next
        { s with portA := { s.portA with wire := ⟨[], 0xFF :: s.portA.stateByte :: List.replicate n 0xFF⟩ } }) ∧
    ∀ r : Response, s.portA.state = .ready → s.portA.response = some r →
      exec (.readTransaction (1 + r.frame.length + n)) s = .next
        { s with portA := { s.portA with
            state := .idle, response := none
            wire := ⟨[], 0xFF :: s.portA.stateByte :: r.frame ++ List.replicate n 0xFF⟩ } } ∧
      (n ≤ r.frame.length → exec (.readTransaction n) s = .next
        { s with portA := { s.portA with wire := ⟨[], 0xFF :: (s.portA.stateByte :: r.frame).take n⟩ } })) ∧
  (∀ (s : State) (n : Nat), s.inReset = false → s.portB.ignoring = false →
    (∀ address : BitVec 7, address ≠ s.addressB →
      exec (.i2cReadTransaction address n) s = .next { s with portB := { s.portB with wire := ⟨[false], []⟩ } }) ∧
    (s.portB.state ≠ .ready →
      exec (.i2cReadTransaction s.addressB (n + 1)) s = .next
        { s with portB := { s.portB with wire := ⟨[true], s.portB.stateByte :: List.replicate n 0xFF⟩ } }) ∧
    ∀ r : Response, s.portB.state = .ready → s.portB.response = some r →
      exec (.i2cReadTransaction s.addressB (1 + r.frame.length + n)) s = .next
        { s with portB := { s.portB with
            state := .idle, response := none
            wire := ⟨[true], s.portB.stateByte :: r.frame ++ List.replicate n 0xFF⟩ } } ∧
      (n ≤ r.frame.length → exec (.i2cReadTransaction s.addressB n) s = .next
        { s with portB := { s.portB with wire := ⟨[true], (s.portB.stateByte :: r.frame).take n⟩ } })) ∧
  ∀ u : PortUnit, u.stateByte.getLsbD 7 = true ∧ u.stateByte.getLsbD 6 = false ∧ u.stateByte.getLsbD 5 = u.alertLow ∧
    u.stateByte.toNat / 4 % 8 =
      (match u.verdict with
       | none => 0
       | some .accepted => 1
       | some .busy => 2
       | some .checkFail => 3
       | some .frameError => 4) ∧
    u.stateByte.toNat % 4 = (match u.state with | .idle => 0 | .inFlight => 1 | .ready => 2)

/-! ## The arbiter, the common checks and the handle checks -/

/-- The arbiter takes the only waiting request, or the preferred port's when both wait, and then prefers the other port; no
other command but a hard reset moves the preference, and no request is taken during a reset. A request taken is answered on
its port with its client byte and code as echoes, or it has started a repack and its port stays IN_FLIGHT (R193, R195). A request
command that is not the arbiter's next take changes nothing (the model's choice, log entry 3). -/
def Obligations.ArbiterTakesInTurn : Prop :=
  (∀ (s : State) (p : Port) (client code : Byte) (payload : List Byte),
    Takes s p client code payload ↔
      s.inReset = false ∧ (s.port p).request = some ⟨⟨client, code, payload⟩, .waiting⟩ ∧
      ((s.port (otherPort p)).requestWaits = false ∨ s.preferred = p)) ∧
  (∀ (s : State) (p : Port) (client code : Byte) (payload : List Byte), Takes s p client code payload →
    ∃ t : State, exec (requestCommand p client code payload) s = .next t ∧ t.preferred = otherPort p ∧
      ((∃ r pl, Answered t p client code r pl) ∨
       ((code = 0x01 ∨ code = 0x02) ∧ t.ctl.repack = .planning ∧ (s.port p).state = (t.port p).state ∧
        (t.port p).request = some ⟨⟨client, code, payload⟩, .taken⟩ ∧ (t.port p).response = (s.port p).response))) ∧
  (∀ (s : State) (p : Port) (client code : Byte) (payload : List Byte), ¬ Takes s p client code payload →
    exec (requestCommand p client code payload) s = .next s) ∧
  ∀ (c : Instr) (s t : State), exec c s = .next t → t.preferred ≠ s.preferred →
    (∃ p client code payload, c = requestCommand p client code payload ∧ Takes s p client code payload) ∨ c = .hardReset

/-- The common checks of every request taken, in their order: client, request code, privilege, payload size. A request refused
by one changes nothing but its port's holders (and the arbiter's preferred port, R193); its response has no payload and
detail 0 (R194). -/
def Obligations.CommonChecksInOrder : Prop :=
  (∀ (s : State) (p : Port) (client code : Byte) (payload : List Byte), Takes s p client code payload →
    let onPort := match p with
      | .a => client.toNat < 4
      | .b => 4 ≤ client.toNat ∧ client.toNat < 8
    let supervisorOnly := code ∈ ([0x06, 0x18, 0x20, 0x21, 0x22, 0x23, 0x28, 0x29, 0x2A] : List Byte)
    let sizes : List (Byte × Nat) :=
      [(0x01, 8), (0x02, 7), (0x03, 2), (0x04, 2), (0x05, 3), (0x06, 2), (0x07, 1), (0x10, 2), (0x11, 1), (0x12, 2),
       (0x18, 1), (0x13, 0), (0x14, 1), (0x20, 7), (0x21, 15), (0x22, 10), (0x23, 2), (0x28, 0), (0x29, 0), (0x2A, 0)]
    (¬ onPort → exec (requestCommand p client code payload) s = .next (answeredState s p client code .badClient [])) ∧
    (onPort → (∀ n, (code, n) ∉ sizes) →
      exec (requestCommand p client code payload) s = .next (answeredState s p client code .unknownRequest [])) ∧
    (onPort → supervisorOnly → client ≠ 0 →
      exec (requestCommand p client code payload) s = .next (answeredState s p client code .notPermitted [])) ∧
    (∀ n, onPort → (code, n) ∈ sizes → (supervisorOnly → client = 0) →
      (payload.length ≠ n →
        exec (requestCommand p client code payload) s = .next (answeredState s p client code .badArg [])) ∧
      (payload.length = n → ∃ who : Client, who.val = client.toNat ∧ Served s p client code payload who))) ∧
  Result.badClient.detail = 0 ∧ Result.unknownRequest.detail = 0 ∧ Result.notPermitted.detail = 0 ∧ Result.badArg.detail = 0

/-- The handle a payload of ADJUST, ACK, RENEW, RELEASE, REVOKE or QUERY names, and the checks of R16 in their order: mode,
arguments, staleness, ownership (ADJUST, RENEW, RELEASE, ACK), closure (ADJUST, RENEW). A refused request is answered and
changes nothing else. A handle names the grant in its slot exactly when the generations agree, and each grant has exactly
one (R14, R17). -/
def Obligations.HandleChecksInOrder : Prop :=
  (∀ (s : State) (p : Port) (client code : Byte) (payload : List Byte) (who : Client),
    code ∈ ([0x02, 0x03, 0x04, 0x05, 0x06, 0x10] : List Byte) → Served s p client code payload who →
    let handle : Option Nat :=
      if code = 0x02 then (readAdjust payload).map AdjustArgs.handle
      else if code = 0x05 then (readAck payload).map Prod.fst else readHandle payload
    (s.config.mode ≠ .run →
      exec (requestCommand p client code payload) s = .next (answeredState s p client code .wrongMode [])) ∧
    (s.config.mode = .run → handle = none →
      exec (requestCommand p client code payload) s = .next (answeredState s p client code .badArg [])) ∧
    ∀ h, s.config.mode = .run → handle = some h →
      (s.ctl.lookup h = none →
        exec (requestCommand p client code payload) s = .next (answeredState s p client code .stale [])) ∧
      ∀ i g, s.ctl.lookup h = some (i, g) →
        (code ∈ ([0x02, 0x03, 0x04, 0x05] : List Byte) → g.owner ≠ who →
          exec (requestCommand p client code payload) s = .next (answeredState s p client code .notOwner [])) ∧
        (code ∈ ([0x02, 0x03] : List Byte) → g.owner = who → ∀ reason, g.state = .closed reason →
          exec (requestCommand p client code payload) s =
            .next (answeredState s p client code (.closed reason) []))) ∧
  ∀ c : Controller,
    (∀ h i g, c.lookup h = some (i, g) ↔
      c.grantAt i = some g ∧ h = c.table[i].generation.val * 32 + i.val) ∧
    ∀ i g, c.grantAt i = some g → ∃ h, h ≤ 511 ∧ c.lookup h = some (i, g) ∧ ∀ h' , c.lookup h' = some (i, g) → h' = h

/-! ## The requests that read -/

/-- A QUERY of a grant is answered OK with its record in the layout of R200, in each of its four states, and a LIST with an
entry for each grant of the client named, in ascending slot order; neither changes anything but its port (R26, R27, R29).
The close reason's byte is the code of its detail (log entry 15), and the ramp notify byte is 1 for yes and 0 for no, a code that
R200's QUERY row does not give: both are the model's reading (log entries 15 and 24). -/
def Obligations.QueryAndListAnswer : Prop :=
  (∀ (s : State) (p : Port) (client : Byte) (payload : List Byte) (who : Client) (h : Nat) (i : SlotIx) (g : Grant),
    Served s p client 0x10 payload who → readHandle payload = some h → Names s h i g →
    let answered (bytes : List Byte) : Prop :=
      exec (.query p client payload) s = .next (answeredState s p client 0x10 .ok bytes)
    let head (presence state : Nat) : List Byte :=
      put16 h ++ put8 (presence + if g.leaseRemaining.isSome then 4 else 0) ++ put8 state ++ put8 g.owner.val ++
        put8 g.channel.val ++ put8 g.priority.val ++ put16 g.targetDuty ++ put16 g.presentDuty ++ put8 g.rampRate ++
        put8 (if g.rampNotify then 1 else 0)
    let lease : List Byte := put8 g.leaseLength ++ (match g.leaseRemaining with | some n => put8 n | none => [0xFF])
    (∀ start r before after, g.state = .active start r → s.ctl.admission = before ++ i :: after → i ∉ before →
      answered (head 35 1 ++ put8 start.val ++ put8 r ++ lease ++ put8 (noticesByte g.notices) ++ [0xFF, 0xFF] ++
        put8 (before.length + 1) ++ [0xFF, 0xFF])) ∧
    (∀ before after, g.state = .deferred → s.ctl.waiting = before ++ i :: after → i ∉ before →
      answered (head 16 2 ++ [0xFF, 0xFF] ++ lease ++ put8 (noticesByte g.notices) ++ [0xFF] ++ put8 (before.length + 1) ++
        [0xFF, 0xFF, 0xFF])) ∧
    (∀ before after, g.state = .queued → s.ctl.waiting = before ++ i :: after → i ∉ before → NoHolder s.ctl g.channel →
      answered (head 16 3 ++ [0xFF, 0xFF] ++ lease ++ put8 (noticesByte g.notices) ++ [0xFF] ++ put8 (before.length + 1) ++
        [0xFF, 0xFF, 0xFF])) ∧
    (∀ before after j gj, g.state = .queued → s.ctl.waiting = before ++ i :: after → i ∉ before →
      s.ctl.grantAt j = some gj → gj.holds = true → gj.channel = g.channel →
      (∀ k gk, s.ctl.grantAt k = some gk → gk.holds = true → gk.channel = g.channel → k = j) →
      answered (head 80 3 ++ [0xFF, 0xFF] ++ lease ++ put8 (noticesByte g.notices) ++ [0xFF] ++ put8 (before.length + 1) ++
        [0xFF] ++ put16 (s.ctl.table[j].generation.val * 32 + j.val))) ∧
    (∀ reason, g.state = .closed reason →
      answered (head 8 4 ++ [0xFF, 0xFF] ++ lease ++ put8 (noticesByte g.notices) ++
        put8 (if reason = .expired then 1 else if reason = .channelFault then 2 else 3) ++ [0xFF, 0xFF, 0xFF, 0xFF]))) ∧
  ∀ (s : State) (p : Port) (client named : Byte) (who : Client), Served s p client 0x11 [named] who →
    (s.config.mode ≠ .run →
      exec (.list p client [named]) s = .next (answeredState s p client 0x11 .wrongMode [])) ∧
    (s.config.mode = .run → 8 ≤ named.toNat →
      exec (.list p client [named]) s = .next (answeredState s p client 0x11 .badArg [])) ∧
    (s.config.mode = .run → named.toNat < 8 →
      let owned := (List.finRange 32).filter fun i => (s.ctl.grantAt i).any fun g => g.owner.val == named.toNat
      exec (.list p client [named]) s = .next (answeredState s p client 0x11 (.okListed owned.length)
        (owned.flatMap fun i => (s.ctl.grantAt i).elim [] fun g =>
          put16 ((s.ctl.table[i].generation.val * 32 + i.val) * 128 +
            (match g.state with | .active _ _ => 1 | .deferred => 2 | .queued => 3 | .closed _ => 4) * 16 +
            (if g.notices.pending then 8 else 0)))))

/-- MAP_READ: WRONG_MODE, then BAD_ARG, then the items of R48 for count consecutive entries from the first segment onward,
each position modulo 64, with or without a repack in flight; nothing but its port changes (R47). The byte of repack in flight is 1
for yes and 0 for no (the model's reading, log entry 24). -/
def Obligations.MapReadAnswers : Prop :=
  ∀ (s : State) (p : Port) (client first count : Byte) (who : Client), Served s p client 0x12 [first, count] who →
    (s.config.mode ≠ .run →
      exec (.mapRead p client [first, count]) s = .next (answeredState s p client 0x12 .wrongMode [])) ∧
    (s.config.mode = .run → 63 < first.toNat ∨ count.toNat = 0 ∨ 16 < count.toNat →
      exec (.mapRead p client [first, count]) s = .next (answeredState s p client 0x12 .badArg [])) ∧
    (s.config.mode = .run → first.toNat ≤ 63 → 1 ≤ count.toNat → count.toNat ≤ 16 →
      let coverCount (k : Segment) : Nat :=
        ((List.finRange 32).filter fun i => (s.ctl.grantAt i).any fun g =>
          match g.state with
          | .active start r => decide ((k.val + 64 - start.val) % 64 < r)
          | _ => false).length
      exec (.mapRead p client [first, count]) s = .next (answeredState s p client 0x12 .ok
        ([first, count] ++ put8 s.ctl.tierInForce.val ++ put16 s.ctl.peakInForce ++ put24 s.ctl.chargeInForce ++
          put24 s.ctl.totalCharge ++ put8 (if s.ctl.repack = .idle then 0 else 1) ++
          (List.range count.toNat).flatMap fun n =>
            let k : Segment := ⟨(first.toNat + n) % 64, Nat.mod_lt _ (by decide)⟩
            put16 s.ctl.loadMap[k] ++ put8 (coverCount k))))

/-- GET_PROFILE, from any client and in both modes: BAD_ARG for a channel above 15, otherwise the nine fields as they stand;
nothing but its port changes. A profile does not change in RUN, is what the last SET_PROFILE of CONFIG wrote, and after a CLEAR
is the hard reset one (R179). -/
def Obligations.GetProfileReads : Prop :=
  (∀ (s : State) (p : Port) (client number : Byte) (who : Client), Served s p client 0x14 [number] who →
    (15 < number.toNat →
      exec (.getProfile p client [number]) s = .next (answeredState s p client 0x14 .badArg [])) ∧
    ∀ ch : Channel, ch.val = number.toNat →
      let q := s.config.profiles[ch]
      exec (.getProfile p client [number]) s = .next (answeredState s p client 0x14 .ok
        ([number] ++ put8 ((if q.enabled then 1 else 0) + (if q.drive = .openDrain then 2 else 0) +
            (if q.polarity = .activeLow then 4 else 0) + (if q.pinned then 8 else 0) + (if q.readback then 16 else 0)) ++
          put8 q.current ++ put16 q.maxDuty ++ put8 q.home.val ++ put8 q.defaultRamp))) ∧
  (∀ (c : Instr) (s t : State), exec c s = .next t → s.config.mode = .run → t.config.mode = .run →
    t.config.profiles = s.config.profiles) ∧
  (∀ (s : State) (p : Port) (client : Byte) (payload : List Byte) (who : Client) (ch : Channel) (profile : Profile),
    Served s p client 0x20 payload who → s.config.mode = .config → readSetProfile payload = some (ch, profile) →
    ∃ t, exec (.setProfile p client payload) s = .next t ∧ t.config.profiles[ch] = profile) ∧
  ∀ (s : State) (p : Port) (client : Byte) (who : Client), Served s p client 0x2A [] who →
    ∃ t, exec (.clear p client []) s = .next t ∧
      ∀ ch : Channel, t.config.profiles[ch] =
        { enabled := false, drive := .pushPull, polarity := .activeHigh, current := 1, maxDuty := 2048,
          home := ⟨4 * ch.val % 64, Nat.mod_lt _ (by decide)⟩, pinned := false, defaultRamp := 0, readback := false }

/-- STATUS is always answered OK, in both modes, with the items of R183 in the layout of R200, and changes nothing but its
port. The byte of monitor enabled is 1 for yes and 0 for no (the model's reading, log entry 24). -/
def Obligations.StatusAnswers : Prop :=
  ∀ (s : State) (p : Port) (client : Byte) (who : Client), Served s p client 0x13 [] who →
    let slots (test : Option Grant → Bool) : Nat := ((List.finRange 32).filter fun i => test (s.ctl.grantAt i)).length
    exec (.status p client []) s = .next (answeredState s p client 0x13 .ok
      (put8 (match s.config.mode with | .config => 0 | .run => 1) ++ put8 s.config.divider ++ put8 s.config.leaseExponent ++
        put16 s.timer.frameCount.val ++
        put8 (slots Option.isNone) ++ put8 (slots fun g => g.any Grant.isActive) ++
        put8 (slots fun g => g.any fun x => x.state == .deferred) ++
        put8 (slots fun g => g.any fun x => x.state == .queued) ++ put8 (slots fun g => g.any Grant.isClosed) ++
        put8 (if s.config.monitor.enabled then 1 else 0) ++ put8 s.supply.supplyTier.val ++ put8 s.supply.band.val ++
        put8 ((if s.supply.limit0.asserted then 1 else 0) + (if s.supply.limit1.asserted then 2 else 0)) ++
        put8 s.supply.effective.val ++ put8 s.supply.down ++ put16 s.supply.up ++
        (List.finRange 16).flatMap fun ch =>
          put8 ((match s.engine[ch].fault with | .ok => 0 | .faulted => 128) + s.engine[ch].mismatches)))

/-! ## Room, lists and the retry pass -/

/-- Coverage is circular (R32); the room test is the two bounds of R40, with the cases that follow from it for length 64 and
for a current above the peak; first-fit takes the first candidate from home that fits, a pinned channel home alone
(R59, R60). -/
def Obligations.RoomTestAndFirstFit : Prop :=
  (∀ (s : Segment) (f : Nat) (k : Segment), f ≤ 64 → (covers s f k = true ↔ ∃ n, n < f ∧ k.val = (s.val + n) % 64)) ∧
  ∀ (m : Vector Nat 64) (total peak charge current : Nat),
    (∀ (s : Segment) (f : Nat), fits m total peak charge current s f = true ↔
      (∀ k : Segment, covers s f k = true → m[k] + current ≤ peak) ∧ total + current * f ≤ charge) ∧
    (∀ s s' : Segment, fits m total peak charge current s 64 = fits m total peak charge current s' 64) ∧
    (∀ (s : Segment) (f : Nat), peak < current → 1 ≤ f → fits m total peak charge current s f = false) ∧
    (∀ (home : Segment) (f : Nat) (s : Segment),
      (firstFit m total peak charge current home true f = some s ↔
        s = home ∧ fits m total peak charge current home f = true) ∧
      (firstFit m total peak charge current home false f = some s ↔
        ∃ n, n < 64 ∧ s.val = (home.val + n) % 64 ∧ fits m total peak charge current s f = true ∧
          ∀ (n' : Nat) (s' : Segment), n' < n → s'.val = (home.val + n') % 64 →
            fits m total peak charge current s' f = false)) ∧
    ∀ (home : Segment) (f : Nat), firstFit m total peak charge current home false f = none ↔
      ∀ s : Segment, fits m total peak charge current s f = false

/-- The four operations of R38 at a slot: a grant that becomes ACTIVE raises the segments its run covers by its channel's
current, one that leaves ACTIVE lowers them, and one whose reservation grows or shrinks moves exactly the segments that
join or leave its run, at its tail, keeping its start; the total charge moves with them. -/
def Obligations.RoomOperations : Prop :=
  ∀ (profiles : Vector Profile 16) (c : Controller) (i : SlotIx) (g : Grant), c.grantAt i = some g →
    let current := profiles[g.channel].current
    (∀ (s : Segment) (f : Nat), f ≤ 64 →
      let d := c.activate profiles i g s f
      d.grantAt i = some { g with state := .active s f } ∧ d.admission = c.admission ++ [i] ∧
      (∀ k : Segment, d.loadMap[k] = c.loadMap[k] + if covers s f k then current else 0) ∧
      d.totalCharge = c.totalCharge + current * f) ∧
    ∀ (s : Segment) (r : Nat), r ≤ 64 → g.state = .active s r →
      (let d := c.detach profiles i
       d.admission = c.admission.erase i ∧ d.waiting = c.waiting ∧
       (∀ k : Segment, d.loadMap[k] = c.loadMap[k] - if covers s r k then current else 0) ∧
       d.totalCharge = c.totalCharge - current * r) ∧
      ∀ f : Nat, f ≤ 64 →
        let d := c.resize profiles i f
        d.grantAt i = some { g with state := .active s f } ∧ d.admission = c.admission ∧ d.waiting = c.waiting ∧
        (∀ j : SlotIx, j ≠ i → d.table[j] = c.table[j]) ∧
        (∀ k : Segment,
          (covers s f k = covers s r k → d.loadMap[k] = c.loadMap[k]) ∧
          (covers s f k = true → covers s r k = false → d.loadMap[k] = c.loadMap[k] + current) ∧
          (covers s f k = false → covers s r k = true → d.loadMap[k] = c.loadMap[k] - current)) ∧
        (r ≤ f → d.totalCharge = c.totalCharge + current * (f - r)) ∧
        (f ≤ r → d.totalCharge = c.totalCharge - current * (r - f))

/-- A grant enters the waiting list directly after the last member of equal or higher priority, or at the head, which keeps the
list in non-increasing order of priority (R19, R20). -/
def Obligations.InsertionKeepsOrder : Prop :=
  ∀ (prio : SlotIx → Priority) (i : SlotIx) (l : List SlotIx),
    (∃ before after : List SlotIx, l = before ++ after ∧ insertByPriority prio i (prio i) l = before ++ i :: after ∧
      (∀ j, before.getLast? = some j → prio i ≤ prio j) ∧ ∀ j, j ∈ after → prio j < prio i) ∧
    (l.Pairwise (fun j k => prio k ≤ prio j) →
      (insertByPriority prio i (prio i) l).Pairwise (fun j k => prio k ≤ prio j))

/-- A visit of a retry pass makes an eligible grant ACTIVE, with notice ADMITTED, at the start first-fit finds for the larger of its
footprints, moving its run, its charge and its list place; an eligible one that finds none, or any at TIER3, is DEFERRED at its
place; one that is not eligible is passed over. Eligible are a DEFERRED grant, and a QUEUED one whose channel has no holder (R74
to R77). The pass visits the members of the waiting list once each, in list order, each on what the visits before it left, and
the outcome of its visit stands (R73). So a pass moves waiting grants alone, appends its admissions to the admission list, keeps
the ceilings if they held before, and leaves every channel with a QUEUED grant a holder. -/
def Obligations.RetryPassOutcome : Prop :=
  (∀ (profiles : Vector Profile 16) (c : Controller) (i : SlotIx),
    (c.grantAt i = none → Controller.visit profiles c i = c) ∧
    ∀ g : Grant, c.grantAt i = some g →
      let eligible : Prop := g.state = .deferred ∨ (g.state = .queued ∧ NoHolder c g.channel)
      let need := max (footprint g.presentDuty) (footprint g.targetDuty)
      let current := profiles[g.channel].current
      (¬ eligible → Controller.visit profiles c i = c) ∧
      (eligible → c.tierInForce = 3 ∨ c.place profiles g.channel need = none →
        Controller.visit profiles c i =
          { c with table := c.table.set i ⟨c.table[i].generation, some { g with state := .deferred }⟩ }) ∧
      ∀ start, eligible → c.tierInForce ≠ 3 → c.place profiles g.channel need = some start →
        Controller.visit profiles c i = { c with
          table := c.table.set i ⟨c.table[i].generation,
            some { g with state := .active start need, notices := { g.notices with admitted := true } }⟩
          waiting := c.waiting.erase i
          admission := c.admission ++ [i]
          loadMap := Vector.ofFn fun k => c.loadMap[k] + if covers start need k then current else 0
          totalCharge := c.totalCharge + current * need }) ∧
  ∀ (profiles : Vector Profile 16) (c : Controller),
    let d := c.retryPass profiles
    (c.waiting = [] → d = c) ∧
    (c.waiting.Nodup → ∀ before i after, c.waiting = before ++ i :: after →
      let reached := before.foldl (Controller.visit profiles) c
      reached.grantAt i = c.grantAt i ∧ d = after.foldl (Controller.visit profiles) (Controller.visit profiles reached i) ∧
      d.grantAt i = (Controller.visit profiles reached i).grantAt i) ∧
    (∀ j : SlotIx, d.table[j].generation = c.table[j].generation ∧ (c.grantAt j = none → d.grantAt j = none) ∧
      ∀ g : Grant, c.grantAt j = some g →
        (g.waits = false → d.grantAt j = some g) ∧
        (g.waits = true → d.grantAt j = some g ∨ d.grantAt j = some { g with state := .deferred } ∨
          ∃ start, c.tierInForce ≠ 3 ∧ d.grantAt j = some { g with
            state := .active start (max (footprint g.presentDuty) (footprint g.targetDuty))
            notices := { g.notices with admitted := true } })) ∧
    CeilingsAndRepackKept c d ∧ (∃ tail, d.admission = c.admission ++ tail) ∧
    (WithinCeilings c → WithinCeilings d) ∧
    (ListsExact c → ListsExact d ∧
      ∀ j : SlotIx, ∀ g : Grant, d.grantAt j = some g → g.state = .queued → ¬ NoHolder d g.channel)

/-! ## GRANT -/

/-- Steps 1 to 7 of a GRANT, in their order; a GRANT refused at one changes nothing but its port (R51 to R54). -/
def Obligations.GrantRefusalsInOrder : Prop :=
  ∀ (s : State) (p : Port) (client : Byte) (payload : List Byte) (who : Client), Served s p client 0x01 payload who →
    let refused (r : Result) : Prop :=
      exec (.grant p client payload) s = .next (answeredState s p client 0x01 r [])
    (s.config.mode ≠ .run → refused .wrongMode) ∧
    (s.config.mode = .run → readGrant payload = none → refused .badArg) ∧
    ∀ a, s.config.mode = .run → readGrant payload = some a →
      let profile := s.config.profiles[a.channel]
      let living : Prop := ∃ i g, s.ctl.grantAt i = some g ∧ g.isLiving = true ∧ g.owner = who ∧ g.channel = a.channel
      (profile.enabled = false → refused .channelOff) ∧
      (profile.enabled = true → s.engine[a.channel].fault = .faulted → refused .channelFault) ∧
      (profile.enabled = true → s.engine[a.channel].fault = .ok →
        (profile.maxDuty < a.duty → refused .overLimit) ∧
        (a.duty ≤ profile.maxDuty → living → refused .duplicate) ∧
        (a.duty ≤ profile.maxDuty → ¬ living → (∀ i, s.ctl.grantAt i ≠ none) → refused .noSlot) ∧
        (a.duty ≤ profile.maxDuty → ¬ living → (∃ i, s.ctl.grantAt i = none) → s.ctl.inFlight = true → refused .retry))

/-- A GRANT for a channel without holder that first-fit places is answered OK: the grant stands ACTIVE in the lowest FREE slot,
with the fields of R3 and the start found, its run in the load map and the total charge, at the tail of the admission list.
Everything else is as it was (R55, R63). -/
def Obligations.GrantPlacedByFirstFit : Prop :=
  ∀ (s : State) (p : Port) (client : Byte) (payload : List Byte) (who : Client) (a : GrantArgs) (i : SlotIx)
    (start : Segment),
    GrantPasses s p client payload who a → LowestFree s.ctl i → NoHolder s.ctl a.channel → s.ctl.tierInForce ≠ 3 →
    s.ctl.place s.config.profiles a.channel (footprint a.duty) = some start →
    ∃ t, exec (.grant p client payload) s = .next t ∧
      t.ctl.table[i] = ⟨s.ctl.table[i].generation,
        some (createdRecord s who a (.active start (footprint a.duty)))⟩ ∧
      OtherSlotsKept s.ctl t.ctl i ∧ t.ctl.waiting = s.ctl.waiting ∧ t.ctl.admission = s.ctl.admission ++ [i] ∧
      (∀ k : Segment, t.ctl.loadMap[k] = s.ctl.loadMap[k] +
        if covers start (footprint a.duty) k then s.config.profiles[a.channel].current else 0) ∧
      t.ctl.totalCharge = s.ctl.totalCharge + s.config.profiles[a.channel].current * footprint a.duty ∧
      CeilingsAndRepackKept s.ctl t.ctl ∧ AlertsExact t ∧ RequestKept s t p ∧
      Answered t p client 0x01 .ok (put16 (s.ctl.table[i].generation.val * 32 + i.val) ++ [1] ++ put8 start.val ++
        put8 (footprint a.duty) ++ [0xFF, 0xFF, 0xFF])

/-- A GRANT that finds no room and starts no repack (TIER3 in force; first-fit failed) is created DEFERRED with wait set, at its
place in the waiting list, and refused NO_ROOM/TIER3 or NO_ROOM/FIRST_FIT with wait clear. A GRANT for a held channel that
does not preempt is created QUEUED with wait set, and refused CHANNEL_HELD with the holder's handle and priority with wait
clear (R56 to R58, R62, R63). -/
def Obligations.GrantWaitsOrIsRefused : Prop :=
  ∀ (s : State) (p : Port) (client : Byte) (payload : List Byte) (who : Client) (a : GrantArgs) (i : SlotIx),
    GrantPasses s p client payload who a → LowestFree s.ctl i →
    let refused (r : Result) (bytes : List Byte) : Prop :=
      exec (.grant p client payload) s = .next (answeredState s p client 0x01 r bytes)
    let created (state : GrantState) (r : Result) (code : Nat) (holder : List Byte) : Prop :=
      ∃ t, exec (.grant p client payload) s = .next t ∧
        t.ctl.table[i] = ⟨s.ctl.table[i].generation, some (createdRecord s who a state)⟩ ∧
        OtherSlotsKept s.ctl t.ctl i ∧ AccountKept s.ctl t.ctl ∧ AlertsExact t ∧ RequestKept s t p ∧
        ∃ before after, s.ctl.waiting = before ++ after ∧ t.ctl.waiting = before ++ i :: after ∧
          (∀ j, before.getLast? = some j → j ≠ i → a.priority ≤ s.ctl.priorityAt j) ∧
          (∀ j, j ∈ after → j ≠ i → s.ctl.priorityAt j < a.priority) ∧
          (i ∉ before → Answered t p client 0x01 r
            (put16 (s.ctl.table[i].generation.val * 32 + i.val) ++ put8 code ++ [0xFF, 0xFF] ++
              put8 (before.length + 1) ++ holder))
    (NoHolder s.ctl a.channel →
      (s.ctl.tierInForce = 3 →
        (a.wait = true → created .deferred .deferred 2 [0xFF, 0xFF]) ∧
        (a.wait = false → refused (.noRoom .tier3) [])) ∧
      (s.ctl.tierInForce ≠ 3 → s.ctl.place s.config.profiles a.channel (footprint a.duty) = none →
        (a.allowRepack = false ∨
          s.ctl.chargeInForce < s.ctl.totalCharge + s.config.profiles[a.channel].current * footprint a.duty ∨
          s.ctl.peakInForce < s.config.profiles[a.channel].current) →
        (a.wait = true → created .deferred .deferred 2 [0xFF, 0xFF]) ∧
        (a.wait = false → refused (.noRoom .firstFit) []))) ∧
    ∀ j gj, s.ctl.grantAt j = some gj → gj.holds = true → gj.channel = a.channel →
      (∀ k gk, s.ctl.grantAt k = some gk → gk.holds = true → gk.channel = a.channel → k = j) →
      a.preempt = false ∨ a.priority ≤ gj.priority →
      (a.wait = true →
        created .queued .queued 3 (put16 (s.ctl.table[j].generation.val * 32 + j.val))) ∧
      (a.wait = false → refused .channelHeld
        (put16 (s.ctl.table[j].generation.val * 32 + j.val) ++ put8 gj.priority.val))

/-- A preempting GRANT that does not fit with wait clear changes nothing: the holder keeps its state, room, place and notices,
and the answer is NO_ROOM/FIRST_FIT, or NO_ROOM/TIER3 at TIER3 (R67). A preempting GRANT is judged against the map without
the holder's reservation; at TIER3 nothing fits (R64). -/
def Obligations.PreemptionWithoutRoomRefused : Prop :=
  ∀ (s : State) (p : Port) (client : Byte) (payload : List Byte) (who : Client) (a : GrantArgs) (i j : SlotIx) (gj : Grant),
    GrantPasses s p client payload who a → LowestFree s.ctl i →
    s.ctl.grantAt j = some gj → gj.holds = true → gj.channel = a.channel →
    (∀ k gk, s.ctl.grantAt k = some gk → gk.holds = true → gk.channel = a.channel → k = j) →
    a.preempt = true → gj.priority < a.priority → a.wait = false →
    (s.ctl.tierInForce = 3 →
      exec (.grant p client payload) s = .next (answeredState s p client 0x01 (.noRoom .tier3) [])) ∧
    (s.ctl.tierInForce ≠ 3 →
      (s.ctl.detach s.config.profiles j).place s.config.profiles a.channel (footprint a.duty) = none →
      exec (.grant p client payload) s = .next (answeredState s p client 0x01 (.noRoom .firstFit) []))

/-- A preempting GRANT that fits without the holder's room, or has wait set, takes the channel: the holder is QUEUED with notice
PREEMPTED and otherwise keeps its record; the new grant is ACTIVE at the start found, or DEFERRED at the end of the event when
it does not fit; every other grant is kept but for what the retry pass does to waiting ones. The controller is that of one retry
pass, run after the holder has given up its room and joined the waiting list and the new grant is in (R64 to R66, R68, R71). -/
def Obligations.GrantPreemptsHolder : Prop :=
  ∀ (s : State) (p : Port) (client : Byte) (payload : List Byte) (who : Client) (a : GrantArgs) (i j : SlotIx) (gj : Grant),
    GrantPasses s p client payload who a → LowestFree s.ctl i →
    s.ctl.grantAt j = some gj → gj.holds = true → gj.channel = a.channel →
    (∀ k gk, s.ctl.grantAt k = some gk → gk.holds = true → gk.channel = a.channel → k = j) →
    a.preempt = true → gj.priority < a.priority →
    let preempted (t : State) : Prop :=
      exec (.grant p client payload) s = .next t ∧
      t.ctl.table[j] = ⟨s.ctl.table[j].generation,
        some { gj with state := .queued, notices := { gj.notices with preempted := true } }⟩ ∧
      (∀ k : SlotIx, k ≠ i → k ≠ j → t.ctl.table[k].generation = s.ctl.table[k].generation ∧
        ((s.ctl.grantAt k).any Grant.waits = false → t.ctl.grantAt k = s.ctl.grantAt k)) ∧
      CeilingsAndRepackKept s.ctl t.ctl ∧ AlertsExact t ∧ RequestKept s t p
    let queued : Controller := ((s.ctl.detach s.config.profiles j).putGrant j
      { gj with state := .queued, notices := { gj.notices with preempted := true } }).enterWaiting j
    (∀ start, s.ctl.tierInForce ≠ 3 →
      (s.ctl.detach s.config.profiles j).place s.config.profiles a.channel (footprint a.duty) = some start →
      ∃ t, preempted t ∧
        t.ctl.table[i] = ⟨s.ctl.table[i].generation, some (createdRecord s who a (.active start (footprint a.duty)))⟩ ∧
        SameButSummaries t.ctl ((queued.activate s.config.profiles i (createdRecord s who a .deferred) start
          (footprint a.duty)).retryPass s.config.profiles) ∧
        Answered t p client 0x01 .ok (put16 (s.ctl.table[i].generation.val * 32 + i.val) ++ [1] ++ put8 start.val ++
          put8 (footprint a.duty) ++ [0xFF, 0xFF, 0xFF])) ∧
    (a.wait = true →
      s.ctl.tierInForce = 3 ∨
        (s.ctl.detach s.config.profiles j).place s.config.profiles a.channel (footprint a.duty) = none →
      ∃ t bytes, preempted t ∧
        t.ctl.table[i] = ⟨s.ctl.table[i].generation, some (createdRecord s who a .deferred)⟩ ∧
        SameButSummaries t.ctl (((queued.putGrant i (createdRecord s who a .deferred)).enterWaiting i).retryPass
          s.config.profiles) ∧
        Answered t p client 0x01 .deferred bytes ∧
        bytes.take 5 = put16 (s.ctl.table[i].generation.val * 32 + i.val) ++ [2, 0xFF, 0xFF])

/-- A GRANT with allow-repack whose first-fit failed and whose precondition holds starts a repack: the plan serial advances, the
condition is PLANNING, the held record is filled from the request, and no response is written, so the port stays IN_FLIGHT.
Table, lists, map, charge and ceilings stay (R69, R70, R80). The planner's input set is every ACTIVE grant at its reservation and
the requested grant (R81); the planner takes it in the order of R83 and plans as R84 gives, and one plan event with the new
serial is raised, complete exactly when there is a plan. That the plan is built and its event raised within the GRANT's own event
is the model's reading (log entry 10). -/
def Obligations.GrantStartsRepack : Prop :=
  ∀ (s : State) (p : Port) (client : Byte) (payload : List Byte) (who : Client) (a : GrantArgs) (i : SlotIx),
    GrantPasses s p client payload who a → LowestFree s.ctl i → NoHolder s.ctl a.channel → s.ctl.tierInForce ≠ 3 →
    s.ctl.place s.config.profiles a.channel (footprint a.duty) = none → a.allowRepack = true →
    s.ctl.totalCharge + s.config.profiles[a.channel].current * footprint a.duty ≤ s.ctl.chargeInForce →
    s.config.profiles[a.channel].current ≤ s.ctl.peakInForce →
    ∃ t done, exec (.grant p client payload) s = .next t ∧
      t.ctl = { s.ctl with
        planSerial := s.ctl.planSerial + 1
        repack := .planning
        held := some
          { kind := .grant a.channel a.priority a.duty a.leaseLength, client := who, port := p,
            rampRate := (createdRecord s who a .deferred).rampRate, rampNotify := a.rampNotify,
            needed := footprint a.duty } } ∧
      t.planner.serial = s.ctl.planSerial + 1 ∧ t.planner.peak = s.ctl.peakInForce ∧
      t.planner.charge = s.ctl.chargeInForce ∧ t.planner.plan.isSome = done ∧
      t.planner.input.Perm (activeInputs s (fun _ g => g.room) ++
        [inputEntry s.config.profiles none a.channel a.priority (footprint a.duty)]) ∧
      PlansAs t.planner.input s.ctl.peakInForce s.ctl.chargeInForce t.planner.plan ∧
      (ListsExact s.ctl → t.planner.input.length = s.ctl.admission.length + 1) ∧
      t.events = { s.events with planEvents := s.events.planEvents ++ [⟨done, s.ctl.planSerial + 1⟩] } ∧
      (t.port p).state = (s.port p).state ∧ (t.port p).request = some ⟨⟨client, 0x01, payload⟩, .taken⟩ ∧
      (t.port p).response = (s.port p).response ∧ PortKept s t (otherPort p) ∧ t.preferred = otherPort p ∧
      t.config = s.config ∧ t.timer = s.timer ∧ t.engine = s.engine ∧ t.supply = s.supply ∧ t.pending = s.pending

/-! ## The other requests that act on grants -/

/-- An ADJUST of a waiting grant, or of an ACTIVE one whose need is within its reservation, replaces target, ramp rate and ramp
notify and is answered OK. A target equal to the present duty gives back the room above it, and a retry pass follows; in every
other case the room and the lists stay (R102, R105, R106). -/
def Obligations.AdjustWithinReservation : Prop :=
  ∀ (s : State) (p : Port) (client : Byte) (payload : List Byte) (who : Client) (a : AdjustArgs) (i : SlotIx) (g : Grant),
    Served s p client 0x02 payload who → readAdjust payload = some a → Names s a.handle i g → g.owner = who →
    a.target ≤ s.config.profiles[g.channel].maxDuty →
    let rate := match a.rate with | .steps n => n | .profileDefault => s.config.profiles[g.channel].defaultRamp
    let g' : Grant := { g with targetDuty := a.target, rampRate := rate, rampNotify := a.rampNotify }
    let bytes (state : Nat) (place : List Byte) : List Byte :=
      put16 a.handle ++ put8 state ++ put16 a.target ++ put16 g.presentDuty ++ put8 rate ++
        put8 (if a.rampNotify then 1 else 0) ++ place
    let adjusted (state : Nat) (place : List Byte) : Prop :=
      ∃ t, exec (.adjust p client payload) s = .next t ∧
        t.ctl = { s.ctl with table := s.ctl.table.set i ⟨s.ctl.table[i].generation, some g'⟩ } ∧
        RequestKept s t p ∧ Answered t p client 0x02 .ok (bytes state place)
    (g.state = .deferred → adjusted 2 [0xFF, 0xFF]) ∧ (g.state = .queued → adjusted 3 [0xFF, 0xFF]) ∧
    ∀ start r, g.state = .active start r → footprint a.target ≤ r →
      (a.target ≠ g.presentDuty ∨ r ≤ footprint g.presentDuty → adjusted 1 (put8 start.val ++ put8 r)) ∧
      (a.target = g.presentDuty → footprint g.presentDuty < r →
        ∃ t, exec (.adjust p client payload) s = .next t ∧
          t.ctl.table[i] = ⟨s.ctl.table[i].generation,
            some { g' with state := .active start (footprint g.presentDuty) }⟩ ∧
          OtherSlotsKeptButWaiting s.ctl t.ctl i ∧ (s.ctl.inFlight = true → OtherSlotsKept s.ctl t.ctl i) ∧
          SameButSummaries t.ctl (((s.ctl.putGrant i g').resize s.config.profiles i (footprint g.presentDuty)).passIf
            s.config.profiles true) ∧
          AlertsExact t ∧ RequestKept s t p ∧
          Answered t p client 0x02 .ok (bytes 1 (put8 start.val ++ put8 (footprint g.presentDuty))))

/-- An ADJUST of a living grant to a target above the max duty is refused OVER_LIMIT, in ACTIVE, DEFERRED and QUEUED alike. An
ADJUST of an ACTIVE grant that needs more room: RETRY while a repack is in flight; the reservation grows at its tail when the
added run fits; otherwise a repack starts if allow-repack and the precondition allow it, and the answer is NO_ROOM/FIRST_FIT if
not. Where it is refused nothing changes (R102 to R104). The input set of the repack is every ACTIVE grant at its reservation,
the adjusted one at its need (R81), and the planner plans on it as R83 and R84 give, within the ADJUST's own event (the model's
reading, log entry 10). -/
def Obligations.AdjustBeyondReservation : Prop :=
  (∀ (s : State) (p : Port) (client : Byte) (payload : List Byte) (who : Client) (a : AdjustArgs) (i : SlotIx) (g : Grant),
    Served s p client 0x02 payload who → readAdjust payload = some a → Names s a.handle i g → g.owner = who →
    g.isLiving = true → s.config.profiles[g.channel].maxDuty < a.target →
    exec (.adjust p client payload) s = .next (answeredState s p client 0x02 .overLimit [])) ∧
  ∀ (s : State) (p : Port) (client : Byte) (payload : List Byte) (who : Client) (a : AdjustArgs) (i : SlotIx) (g : Grant)
    (start : Segment) (r : Nat),
    Served s p client 0x02 payload who → readAdjust payload = some a → Names s a.handle i g → g.owner = who →
    g.state = .active start r → r ≤ 64 →
    let profile := s.config.profiles[g.channel]
    let need := footprint a.target
    let rate := match a.rate with | .steps n => n | .profileDefault => profile.defaultRamp
    let refused (res : Result) : Prop :=
      exec (.adjust p client payload) s = .next (answeredState s p client 0x02 res [])
    let tailFits : Prop :=
      (∀ k : Segment, covers start need k = true → covers start r k = false →
        s.ctl.loadMap[k] + profile.current ≤ s.ctl.peakInForce) ∧
      s.ctl.totalCharge + profile.current * (need - r) ≤ s.ctl.chargeInForce
    (a.target ≤ profile.maxDuty → a.target ≤ 2048 → r < need →
      (s.ctl.inFlight = true → refused .retry) ∧
      (s.ctl.inFlight = false → tailFits →
        ∃ t, exec (.adjust p client payload) s = .next t ∧
          t.ctl.table[i] = ⟨s.ctl.table[i].generation, some { g with
            state := .active start need, targetDuty := a.target, rampRate := rate, rampNotify := a.rampNotify }⟩ ∧
          OtherSlotsKept s.ctl t.ctl i ∧ t.ctl.waiting = s.ctl.waiting ∧ t.ctl.admission = s.ctl.admission ∧
          (∀ k : Segment, t.ctl.loadMap[k] =
            s.ctl.loadMap[k] + if covers start need k && !covers start r k then profile.current else 0) ∧
          t.ctl.totalCharge = s.ctl.totalCharge + profile.current * (need - r) ∧
          CeilingsAndRepackKept s.ctl t.ctl ∧ RequestKept s t p ∧
          Answered t p client 0x02 .ok (put16 a.handle ++ [1] ++ put16 a.target ++ put16 g.presentDuty ++ put8 rate ++
            put8 (if a.rampNotify then 1 else 0) ++ put8 start.val ++ put8 need)) ∧
      (s.ctl.inFlight = false → ¬ tailFits →
        a.allowRepack = false ∨ s.ctl.tierInForce = 3 ∨ s.ctl.peakInForce < profile.current ∨
          s.ctl.chargeInForce < s.ctl.totalCharge + profile.current * (need - r) →
        refused (.noRoom .firstFit)) ∧
      (s.ctl.inFlight = false → ¬ tailFits → a.allowRepack = true → s.ctl.tierInForce ≠ 3 →
        profile.current ≤ s.ctl.peakInForce →
        s.ctl.totalCharge + profile.current * (need - r) ≤ s.ctl.chargeInForce →
        ∃ t, exec (.adjust p client payload) s = .next t ∧
          t.ctl = { s.ctl with
            planSerial := s.ctl.planSerial + 1
            repack := .planning
            held := some { kind := .adjust a.handle a.target, client := who, port := p, rampRate := rate,
                           rampNotify := a.rampNotify, needed := need } } ∧
          t.planner.serial = s.ctl.planSerial + 1 ∧ t.planner.peak = s.ctl.peakInForce ∧
          t.planner.charge = s.ctl.chargeInForce ∧
          t.planner.input.Perm (activeInputs s fun j gj => if j = i then need else gj.room) ∧
          PlansAs t.planner.input s.ctl.peakInForce s.ctl.chargeInForce t.planner.plan ∧
          t.events = { s.events with
            planEvents := s.events.planEvents ++ [⟨t.planner.plan.isSome, s.ctl.planSerial + 1⟩] } ∧
          t.preferred = otherPort p ∧ t.pending = s.pending ∧
          (t.port p).state = (s.port p).state ∧ (t.port p).request = some ⟨⟨client, 0x02, payload⟩, .taken⟩ ∧
          (t.port p).response = (s.port p).response ∧ PortKept s t (otherPort p) ∧ t.config = s.config ∧
          t.engine = s.engine ∧ t.supply = s.supply ∧ t.timer = s.timer))

/-- A RENEW by the owner of a living grant restarts its lease: the lease remaining becomes the lease length, and nothing changes
for a lease length of 0 (R119). A lease tick taken after it lowers the lease to length − 1, which expires a lease of 1; a tick
taken first expires a lease of which 1 remained, and the RENEW is then answered CLOSED/EXPIRED and changes nothing (R120). -/
def Obligations.RenewRestartsLease : Prop :=
  ∀ (s : State) (p : Port) (client : Byte) (payload : List Byte) (who : Client) (h : Nat) (i : SlotIx) (g : Grant),
    Served s p client 0x03 payload who → readHandle payload = some h → Names s h i g → g.owner = who → g.isLiving = true →
    let code := match g.state with | .active _ _ => 1 | .deferred => 2 | .queued => 3 | .closed _ => 4
    (g.leaseLength = 0 → g.leaseRemaining = none → exec (.renew p client payload) s =
      .next (answeredState s p client 0x03 .ok (put16 h ++ put8 code ++ [0, 0xFF]))) ∧
    (∀ n, g.leaseLength = n + 1 →
      exec (.renew p client payload) s = .next (answeredState
        { s with ctl := { s.ctl with
            table := s.ctl.table.set i ⟨s.ctl.table[i].generation, some { g with leaseRemaining := some (n + 1) }⟩ } }
        p client 0x03 .ok (put16 h ++ put8 code ++ put8 (n + 1) ++ put8 (n + 1)))) ∧
    (∀ n m k, g.leaseLength = n + 1 → g.leaseRemaining = some (m + 1) → s.events.leaseTicks = k + 1 →
      s.ctl.inFlight = false →
      (∃ t u g', exec (.renew p client payload) s = .next t ∧ exec .leaseTick t = .next u ∧ u.ctl.grantAt i = some g' ∧
        g'.leaseRemaining = some n ∧ (g'.isLiving = true ↔ 1 ≤ n) ∧ (n = 0 → g'.state = .closed .expired)) ∧
      ∃ v g', exec .leaseTick s = .next v ∧ v.ctl.grantAt i = some g' ∧ g'.leaseRemaining = some m ∧
        (m = 0 → g'.state = .closed .expired ∧
          exec (.renew p client payload) v = .next (answeredState v p client 0x03 (.closed .expired) [])))

/-- A RELEASE by the owner frees the slot in any state of the grant: its room and its list place are given up, the generation
advances, and a retry pass follows if the grant held its channel and no repack is in flight. The answer carries the handle and
the state before. Every other grant is kept but for what the pass does to waiting ones (R121). -/
def Obligations.ReleaseFreesSlot : Prop :=
  ∀ (s : State) (p : Port) (client : Byte) (payload : List Byte) (who : Client) (h : Nat) (i : SlotIx) (g : Grant),
    Served s p client 0x04 payload who → readHandle payload = some h → Names s h i g → g.owner = who →
    ∃ t, exec (.release p client payload) s = .next t ∧
      t.ctl.table[i] = ⟨s.ctl.table[i].generation + 1, none⟩ ∧ OtherSlotsKeptButWaiting s.ctl t.ctl i ∧
      SameButSummaries t.ctl (((s.ctl.detach s.config.profiles i).emptySlot i).passIf s.config.profiles g.holds) ∧
      (g.holds = false ∨ s.ctl.inFlight = true →
        OtherSlotsKept s.ctl t.ctl i ∧
        (g.isActive = true → t.ctl.admission = s.ctl.admission.erase i ∧ t.ctl.waiting = s.ctl.waiting) ∧
        (g.waits = true → t.ctl.waiting = s.ctl.waiting.erase i ∧ t.ctl.admission = s.ctl.admission ∧
          t.ctl.loadMap = s.ctl.loadMap ∧ t.ctl.totalCharge = s.ctl.totalCharge)) ∧
      CeilingsAndRepackKept s.ctl t.ctl ∧ AlertsExact t ∧ RequestKept s t p ∧
      Answered t p client 0x04 .ok (put16 h ++
        put8 (match g.state with | .active _ _ => 1 | .deferred => 2 | .queued => 3 | .closed _ => 4))

/-- An ACK by the owner removes the notices it names, and frees the slot of a CLOSED grant when it names CLOSED. It gives up no
room and runs no pass; lists, map, charge, ceilings and every other slot stay (R123, R124). -/
def Obligations.AckRemovesNotices : Prop :=
  ∀ (s : State) (p : Port) (client : Byte) (payload : List Byte) (who : Client) (h : Nat) (named : Notices) (i : SlotIx)
    (g : Grant),
    Served s p client 0x05 payload who → readAck payload = some (h, named) → Names s h i g → g.owner = who →
    let code : Nat := match g.state with | .active _ _ => 1 | .deferred => 2 | .queued => 3 | .closed _ => 4
    let left : Notices :=
      { admitted := g.notices.admitted && !named.admitted, shed := g.notices.shed && !named.shed,
        preempted := g.notices.preempted && !named.preempted, rampDone := g.notices.rampDone && !named.rampDone,
        closed := g.notices.closed && !named.closed }
    ∃ t, exec (.ack p client payload) s = .next t ∧
      OtherSlotsKept s.ctl t.ctl i ∧ AccountKept s.ctl t.ctl ∧ t.ctl.waiting = s.ctl.waiting ∧ AlertsExact t ∧
      RequestKept s t p ∧
      (g.isClosed = true ∧ named.closed = true →
        t.ctl.table[i] = ⟨s.ctl.table[i].generation + 1, none⟩ ∧
        Answered t p client 0x05 .ok (put16 h ++ [1, 0, 0])) ∧
      (¬ (g.isClosed = true ∧ named.closed = true) →
        t.ctl.table[i] = ⟨s.ctl.table[i].generation, some { g with notices := left }⟩ ∧
        Answered t p client 0x05 .ok (put16 h ++ [0] ++
          put8 code ++ put8 (left.admitted.toNat + 2 * left.shed.toNat + 4 * left.preempted.toNat + 8 * left.rampDone.toNat +
            16 * left.closed.toNat)))

/-- A REVOKE retires a living grant to CLOSED/REVOKED with notice CLOSED and frees nothing; a retry pass follows if the grant held
its channel and no repack is in flight. A REVOKE of the adjusted grant of a held ADJUST abandons that repack first, answering
it NO_ROOM/REPACK_ABANDONED. A REVOKE of a CLOSED grant is answered OK with the reason it has and changes nothing (R116, R125,
R96). The reason's byte is the code of its detail (log entry 15). -/
def Obligations.RevokeRetiresGrant : Prop :=
  ∀ (s : State) (p : Port) (client : Byte) (payload : List Byte) (who : Client) (h : Nat) (i : SlotIx) (g : Grant),
    Served s p client 0x06 payload who → readHandle payload = some h → Names s h i g →
    (∀ reason, g.state = .closed reason → exec (.revoke p client payload) s = .next (answeredState s p client 0x06 .ok
      (put16 h ++ [4] ++ put8 (if reason = .expired then 1 else if reason = .channelFault then 2 else 3)))) ∧
    (g.isLiving = true →
      let closed : Slot := ⟨s.ctl.table[i].generation,
        some { g with state := .closed .revoked, notices := { g.notices with closed := true } }⟩
      (s.ctl.adjusting i = false →
        ∃ t, exec (.revoke p client payload) s = .next t ∧ t.ctl.table[i] = closed ∧
          OtherSlotsKeptButWaiting s.ctl t.ctl i ∧
          (g.holds = false ∨ s.ctl.inFlight = true → OtherSlotsKept s.ctl t.ctl i) ∧
          SameButSummaries t.ctl ((s.ctl.retire s.config.profiles i .revoked).passIf s.config.profiles g.holds) ∧
          CeilingsAndRepackKept s.ctl t.ctl ∧ AlertsExact t ∧ RequestKept s t p ∧
          Answered t p client 0x06 .ok (put16 h ++ [4, 3])) ∧
      ∀ held, s.ctl.adjusting i = true → s.ctl.held = some held → held.port ≠ p →
        ∃ t, exec (.revoke p client payload) s = .next t ∧ t.ctl.table[i] = closed ∧
          OtherSlotsKeptButWaiting s.ctl t.ctl i ∧ t.ctl.repack = .idle ∧ t.ctl.held = none ∧ t.planner.plan = none ∧
          SameButSummaries t.ctl (((withoutRepack s.ctl).retire s.config.profiles i .revoked).retryPass s.config.profiles) ∧
          AnsweredHeld t held (.noRoom .repackAbandoned) ∧ RequestKeptHeldAnswered s t p held ∧ AlertsExact t ∧
          Answered t p client 0x06 .ok (put16 h ++ [4, 3]))

/-- DROP_CLIENT: WRONG_MODE, BAD_ARG, then NOT_PERMITTED for another client than the one named and C0 (R127). Otherwise every slot
of the client is FREE with its generation advanced, every other grant is kept but for what the one retry pass does to waiting
ones, and the answer carries the client and the number freed. A repack that the client asked for, or that adjusts a grant of
the client, is abandoned first. The slots are freed in ascending order; the pass runs if a freed grant held its channel or a
repack was abandoned (R71, R96, R128, R129). -/
def Obligations.DropClientFreesGrants : Prop :=
  ∀ (s : State) (p : Port) (client named : Byte) (who : Client), Served s p client 0x07 [named] who →
    let refused (r : Result) : Prop :=
      exec (.dropClient p client [named]) s = .next (answeredState s p client 0x07 r [])
    (s.config.mode ≠ .run → refused .wrongMode) ∧
    (s.config.mode = .run → 7 < named.toNat → refused .badArg) ∧
    (s.config.mode = .run → named.toNat ≤ 7 → who.val ≠ named.toNat → who ≠ 0 → refused .notPermitted) ∧
    ∀ c : Client, s.config.mode = .run → c.val = named.toNat → who = c ∨ who = 0 →
      let owned := (List.finRange 32).filter fun i => (s.ctl.grantAt i).any fun g => g.owner == c
      let dropped (t : State) : Prop :=
        exec (.dropClient p client [named]) s = .next t ∧
        (∀ i : SlotIx, ∀ g : Grant, s.ctl.grantAt i = some g → g.owner = c →
          t.ctl.table[i] = ⟨s.ctl.table[i].generation + 1, none⟩) ∧
        (∀ i : SlotIx, (∀ g, s.ctl.grantAt i = some g → g.owner ≠ c) →
          t.ctl.table[i].generation = s.ctl.table[i].generation ∧
          ((s.ctl.grantAt i).any Grant.waits = false → t.ctl.grantAt i = s.ctl.grantAt i)) ∧
        t.config = s.config ∧ t.engine = s.engine ∧ t.supply = s.supply ∧ t.timer = s.timer ∧ t.events = s.events ∧
        AlertsExact t ∧ Answered t p client 0x07 .ok ([named] ++ put8 owned.length)
      let freed (before : Controller) : Controller :=
        owned.foldl (fun d i => (d.detach s.config.profiles i).emptySlot i) before
      (s.ctl.repackTouches c = false →
        ∃ t, dropped t ∧ RequestKept s t p ∧ CeilingsAndRepackKept s.ctl t.ctl ∧
          SameButSummaries t.ctl ((freed s.ctl).passIf s.config.profiles
            (owned.any fun i => (s.ctl.grantAt i).any Grant.holds))) ∧
      ∀ held, s.ctl.repackTouches c = true → s.ctl.held = some held → held.port ≠ p →
        ∃ t, dropped t ∧ t.ctl.repack = .idle ∧ t.ctl.held = none ∧ t.planner.plan = none ∧
          SameButSummaries t.ctl ((freed (withoutRepack s.ctl)).retryPass s.config.profiles) ∧
          AnsweredHeld t held (.noRoom .repackAbandoned) ∧ RequestKeptHeldAnswered s t p held

/-! ## Configuration and modes -/

/-- CLEAR_FAULT, in both modes: BAD_ARG for a channel above 15, otherwise the channel is OK with count 0 and its samples are
discarded, those of an ended frame not yet evaluated too (the model's choice, log entry 14); the answer carries the fault state
and count before, and nothing else changes (R167). -/
def Obligations.ClearFaultReturnsChannel : Prop :=
  ∀ (s : State) (p : Port) (client number : Byte) (who : Client), Served s p client 0x18 [number] who →
    (15 < number.toNat →
      exec (.clearFault p client [number]) s = .next (answeredState s p client 0x18 .badArg [])) ∧
    ∀ ch : Channel, ch.val = number.toNat →
      exec (.clearFault p client [number]) s = .next (answeredState
        { s with engine := s.engine.set ch { s.engine[ch] with
            fault := .ok, mismatches := 0, inside := .notTaken, outside := .notTaken } }
        p client 0x18 .ok
        ([number] ++ put8 (match s.engine[ch].fault with | .ok => 0 | .faulted => 1) ++ put8 s.engine[ch].mismatches))

/-- SET_PROFILE, SET_TIERS, SET_MONITOR and SET_FRAME: WRONG_MODE in RUN, BAD_ARG for arguments out of range; otherwise the
settings are replaced whole, with the effects R44, R140, R154 and R182 give on the ceilings in force, the supply tier unit and
the frame timer, and nothing else changes (R178, R180 to R182). A SET_MONITOR that disables the monitor sets the band to 0 at
once (the model's choice, log entry 13). A SET_FRAME discards the samples of the frame it cuts short; while an ended frame's
frame start waits for the engine, the samples it holds are that frame's and stay (the model's choice, log entry 14). -/
def Obligations.SettingsWritten : Prop :=
  (∀ (s : State) (p : Port) (client : Byte) (payload : List Byte) (who : Client) (code : Byte),
    code ∈ ([0x20, 0x21, 0x22, 0x23] : List Byte) → Served s p client code payload who →
    (s.config.mode = .run →
      exec (requestCommand p client code payload) s = .next (answeredState s p client code .wrongMode [])) ∧
    (s.config.mode = .config →
      (code = 0x20 ∧ readSetProfile payload = none) ∨ (code = 0x21 ∧ readTiers payload = none) ∨
        (code = 0x22 ∧ readMonitor payload = none) ∨ (code = 0x23 ∧ readFrame payload = none) →
      exec (requestCommand p client code payload) s = .next (answeredState s p client code .badArg []))) ∧
  (∀ (s : State) (p : Port) (client : Byte) (payload : List Byte) (who : Client) (ch : Channel) (profile : Profile),
    Served s p client 0x20 payload who → s.config.mode = .config → readSetProfile payload = some (ch, profile) →
    exec (.setProfile p client payload) s = .next (answeredState
      { s with config := { s.config with profiles := s.config.profiles.set ch profile } } p client 0x20 .ok
      (put8 ch.val))) ∧
  (∀ (s : State) (p : Port) (client : Byte) (who : Client) (p0 c0 p1 c1 p2 c2 : Nat),
    let payload := put16 p0 ++ put24 c0 ++ put16 p1 ++ put24 c1 ++ put16 p2 ++ put24 c2
    Served s p client 0x21 payload who → s.config.mode = .config → p0 ≤ 4000 → p1 ≤ 4000 → p2 ≤ 4000 → c0 ≤ 256000 →
    c1 ≤ 256000 → c2 ≤ 256000 →
    let ceilings : Nat × Nat := match s.ctl.tierInForce with | 0 => (p0, c0) | 1 => (p1, c1) | 2 => (p2, c2) | 3 => (0, 0)
    exec (.setTiers p client payload) s = .next (answeredState
      { s with
        config := { s.config with tiers := { tier0 := ⟨p0, c0⟩, tier1 := ⟨p1, c1⟩, tier2 := ⟨p2, c2⟩ } }
        ctl := { s.ctl with peakInForce := ceilings.1, chargeInForce := ceilings.2 } } p client 0x21 .ok
      (put8 s.ctl.tierInForce.val ++ put16 ceilings.1 ++ put24 ceilings.2))) ∧
  (∀ (s : State) (p : Port) (client : Byte) (payload : List Byte) (who : Client) (m : Monitor),
    Served s p client 0x22 payload who → s.config.mode = .config → readMonitor payload = some m →
    let limit (old new : LimitSetting) (pin : LimitPin) : LimitPin :=
      if old.activeLow = new.activeLow then pin else ⟨none, false⟩
    let l0 := limit s.config.monitor.limit0 m.limit0 s.supply.limit0
    let l1 := limit s.config.monitor.limit1 m.limit1 s.supply.limit1
    let tier : Tier := if m.enabled then s.supply.supplyTier else 0
    let effective : Tier :=
      max tier (max (if l0.asserted then m.limit0.minTier else 0) (if l1.asserted then m.limit1.minTier else 0))
    exec (.setMonitor p client payload) s = .next (answeredState
      { s with
        config := { s.config with monitor := m }
        supply := { supplyTier := tier, down := 0, up := 0, band := if m.enabled then s.supply.band else 0,
                    limit0 := l0, limit1 := l1, effective := effective }
        events := { s.events with
          tierChanges := s.events.tierChanges + if effective = s.supply.effective then 0 else 1 } }
      p client 0x22 .ok (put8 effective.val))) ∧
  ∀ (s : State) (p : Port) (client d l : Byte) (who : Client), Served s p client 0x23 [d, l] who → s.config.mode = .config →
    1 ≤ d.toNat → d.toNat ≤ 64 → l.toNat ≤ 7 →
    ∃ t, exec (.setFrame p client [d, l]) s = .next t ∧
      t = { answeredState s p client 0x23 .ok [d, l] with
        config := { s.config with divider := d.toNat, leaseExponent := l.toNat }
        timer := { step := 0, frameCount := 0 }
        engine := t.engine } ∧
      (s.events.engineFrames = 0 → ∀ ch : Channel, t.engine[ch] =
        { s.engine[ch] with inside := .notTaken, outside := .notTaken, captured := none }) ∧
      (1 ≤ s.events.engineFrames → t.engine = s.engine)

/-- START: WRONG_MODE in RUN; BAD_CONFIG/1 when no channel is enabled; BAD_CONFIG/2 with the lowest tier out of order when the
tier table is not non-increasing; otherwise RUN, answered with effective tier, tier in force and the number of enabled
channels. START changes nothing but the mode (R171, R172). -/
def Obligations.StartEntersRun : Prop :=
  ∀ (s : State) (p : Port) (client : Byte) (who : Client), Served s p client 0x28 [] who →
    let enabled := (List.finRange 16).filter fun ch => s.config.profiles[ch].enabled
    let ordered (a b : Ceilings) : Prop := b.peak ≤ a.peak ∧ b.charge ≤ a.charge
    let tiers := s.config.tiers
    let refused (r : Result) (bytes : List Byte) : Prop :=
      exec (.start p client []) s = .next (answeredState s p client 0x28 r bytes)
    (s.config.mode = .run → refused .wrongMode []) ∧
    (s.config.mode = .config → enabled = [] → refused .badConfigNoChannel []) ∧
    (s.config.mode = .config → enabled ≠ [] → ¬ ordered tiers.tier0 tiers.tier1 → refused .badConfigTiers [1]) ∧
    (s.config.mode = .config → enabled ≠ [] → ordered tiers.tier0 tiers.tier1 → ¬ ordered tiers.tier1 tiers.tier2 →
      refused .badConfigTiers [2]) ∧
    (s.config.mode = .config → enabled ≠ [] → ordered tiers.tier0 tiers.tier1 → ordered tiers.tier1 tiers.tier2 →
      exec (.start p client []) s = .next (answeredState { s with config := { s.config with mode := .run } }
        p client 0x28 .ok (put8 s.supply.effective.val ++ put8 s.ctl.tierInForce.val ++ put8 enabled.length)))

/-- STOP: WRONG_MODE in CONFIG. In RUN: a repack in flight is abandoned with WRONG_MODE to its port, the mode becomes CONFIG, every
window is none, every occupied slot is FREE with its generation advanced, the lists, the map and the charge are emptied and
both ALERT lines released. Settings, timer, supply tier unit, fault states, counts, samples, tier in force, ceilings and plan
serial are kept (R173). -/
def Obligations.StopFreesAll : Prop :=
  ∀ (s : State) (p : Port) (client : Byte) (who : Client), Served s p client 0x29 [] who →
    (s.config.mode = .config →
      exec (.stop p client []) s = .next (answeredState s p client 0x29 .wrongMode [])) ∧
    (s.config.mode = .run →
      let occupied := (List.finRange 32).filter fun i => (s.ctl.grantAt i).isSome
      ∃ t, exec (.stop p client []) s = .next t ∧ t.config = { s.config with mode := .config } ∧
        (∀ i : SlotIx, t.ctl.table[i] = if s.ctl.grantAt i = none then s.ctl.table[i]
          else ⟨s.ctl.table[i].generation + 1, none⟩) ∧
        t.ctl.waiting = [] ∧ t.ctl.admission = [] ∧ (∀ k : Segment, t.ctl.loadMap[k] = 0) ∧ t.ctl.totalCharge = 0 ∧
        t.ctl.tierInForce = s.ctl.tierInForce ∧ t.ctl.peakInForce = s.ctl.peakInForce ∧
        t.ctl.chargeInForce = s.ctl.chargeInForce ∧ t.ctl.planSerial = s.ctl.planSerial ∧ t.ctl.inFlight = false ∧
        (∀ ch : Channel, t.engine[ch] = { s.engine[ch] with window := none }) ∧
        t.portA.alertLow = false ∧ t.portB.alertLow = false ∧ t.timer = s.timer ∧ t.supply = s.supply ∧
        t.events = s.events ∧ Answered t p client 0x29 .ok (put8 occupied.length) ∧
        (s.ctl.inFlight = false → PortKept s t (otherPort p) ∧ t.planner = s.planner) ∧
        ∀ held, s.ctl.inFlight = true → s.ctl.held = some held → held.port ≠ p →
          t.planner.plan = none ∧ AnsweredHeld t held .wrongMode)

/-- CLEAR, in both modes, returns the configuration, the output engine, the frame timer, the supply tier unit and the ceilings
to their hard reset values, frees every slot, empties the account and the lists, abandons a repack in flight with WRONG_MODE,
and keeps the plan serial (R175). -/
def Obligations.ClearReturnsPart : Prop :=
  ∀ (s : State) (p : Port) (client : Byte) (who : Client), Served s p client 0x2A [] who →
    let occupied := (List.finRange 32).filter fun i => (s.ctl.grantAt i).isSome
    ∃ t, exec (.clear p client []) s = .next t ∧ t.config = State.reset.config ∧ t.engine = State.reset.engine ∧
      t.timer = State.reset.timer ∧ t.supply = State.reset.supply ∧
      (∀ i : SlotIx, t.ctl.table[i] = if s.ctl.grantAt i = none then s.ctl.table[i]
        else ⟨s.ctl.table[i].generation + 1, none⟩) ∧
      t.ctl.waiting = [] ∧ t.ctl.admission = [] ∧ (∀ k : Segment, t.ctl.loadMap[k] = 0) ∧ t.ctl.totalCharge = 0 ∧
      t.ctl.tierInForce = 0 ∧ t.ctl.peakInForce = 1000 ∧ t.ctl.chargeInForce = 32000 ∧
      t.ctl.planSerial = s.ctl.planSerial ∧ t.ctl.inFlight = false ∧
      t.portA.alertLow = false ∧ t.portB.alertLow = false ∧ t.events = s.events ∧
      Answered t p client 0x2A .ok (put8 occupied.length) ∧
      (s.ctl.inFlight = false → PortKept s t (otherPort p)) ∧
      ∀ held, s.ctl.inFlight = true → s.ctl.held = some held → held.port ≠ p →
        t.planner.plan = none ∧ AnsweredHeld t held .wrongMode

/-! ## The frame timer, the output engine and the pins -/

/-- The step counter advances by one step; from 2047 it passes to 0, the frame count advances modulo 65536, a frame start is
raised for each of its three takers, and a lease tick when the new count is a multiple of 2^L. FRAME_START is what the rest of
the frame's steps bring (log entry 5). Nothing else changes, and the timer stands during a reset (R152 to R154). A taker for
which no frame start waits takes that of the boundary at hand where the timer stands at step 2047: the frame count then shows its
old value until the timer's next step or boundary (R184; the model's choice, log entry 25); elsewhere its command changes nothing
(log entry 2). -/
def Obligations.FrameTimerSteps : Prop :=
  ∀ s : State,
    let due : Nat := if s.timer.countDue then 1 else 0
    let raised (count : Nat) : Events := { s.events with
      engineFrames := s.events.engineFrames + 1, supplyFrames := s.events.supplyFrames + 1
      controllerFrames := s.events.controllerFrames + 1
      leaseTicks := s.events.leaseTicks + if count % 2 ^ s.config.leaseExponent = 0 then 1 else 0 }
    (s.inReset = true → exec .stepCounterAdvance s = .next s ∧ exec .frameStart s = .next s) ∧
    (s.inReset = false →
      (∀ n : Nat, s.timer.step.val + n ≤ 2047 → ∃ t : State, stepClock n s = .next t ∧ (n = 0 → t = s) ∧
        (1 ≤ n → t = { s with timer := t.timer } ∧ t.timer.step.val = s.timer.step.val + n ∧
          t.timer.frameCount.val = (s.timer.frameCount.val + due) % 65536 ∧ t.timer.countDue = false)) ∧
      stepClock (2048 - s.timer.step.val) s = exec .frameStart s ∧
      ∃ t : State, exec .frameStart s = .next t ∧ t = { s with timer := t.timer, events := t.events } ∧
        t.timer.step = 0 ∧ t.timer.frameCount.val = (s.timer.frameCount.val + due + 1) % 65536 ∧
        t.timer.countDue = false ∧ t.events = raised t.timer.frameCount.val) ∧
    (s.inReset = false → s.timer.step = 2047 →
      ∃ m : State, m = { s with timer := m.timer, events := raised ((s.timer.frameCount.val + due + 1) % 65536) } ∧
        m.timer.step = 0 ∧ m.timer.frameCount.val = (s.timer.frameCount.val + due) % 65536 ∧ m.timer.countDue = true ∧
        (s.events.engineFrames = 0 → exec .engineFrameStart s = exec .engineFrameStart m) ∧
        (s.events.supplyFrames = 0 → ∀ r l, exec (.sample r l) s = exec (.sample r l) m) ∧
        (s.events.controllerFrames = 0 → exec .repackApply s = exec .repackApply m)) ∧
    (s.inReset = true ∨ s.timer.step ≠ 2047 →
      (s.events.engineFrames = 0 → exec .engineFrameStart s = .next s) ∧
      (s.events.supplyFrames = 0 → ∀ r l, exec (.sample r l) s = .next s) ∧
      (s.events.controllerFrames = 0 → exec .repackApply s = .next s))

/-- A frame start taken by the output engine steps the present duty of every ACTIVE grant (R99) and of no other, raises a ramp
complete once for each that reaches its target by this step (R100), forms the windows from the stepped duties on OK channels (R157),
makes every window none in CONFIG, and clears the samples (R156); the captured window is kept (log entry 14). Under the
reservation bound every captured window lies in the segments its grant's reservation covers (R34), and so at every step the
summed current of the channels whose windows cover it is at most the load map entry of its segment (R41). A ramp at rate r above 0
stands n captures later n·r steps nearer its target, and at it from the capture on at which n·r reaches the distance (R99). -/
def Obligations.EngineFrameCaptures : Prop :=
  (∀ (s : State) (n : Nat), s.events.engineFrames = n + 1 →
    ∃ t : State, exec .engineFrameStart s = .next t ∧
      t = { s with ctl := t.ctl, engine := t.engine, events := t.events } ∧
      t.ctl = { s.ctl with table := t.ctl.table } ∧
      t.events = { s.events with
        engineFrames := n, channelFaults := t.events.channelFaults, rampCompletes := t.events.rampCompletes } ∧
      (∀ ch : Channel, t.engine[ch].inside = .notTaken ∧ t.engine[ch].outside = .notTaken ∧
        t.engine[ch].captured = t.engine[ch].window) ∧
      (s.config.mode = .config → t.ctl = s.ctl ∧ t.events.rampCompletes = s.events.rampCompletes ∧
        ∀ ch : Channel, t.engine[ch].window = none) ∧
      (s.config.mode = .run →
        (∀ i : SlotIx, t.ctl.table[i].generation = s.ctl.table[i].generation ∧
          (s.ctl.grantAt i = none → t.ctl.grantAt i = none) ∧
          ∀ g : Grant, s.ctl.grantAt i = some g →
            (g.isActive = false → t.ctl.grantAt i = some g) ∧
            (g.isActive = true → t.ctl.grantAt i = some { g with
              presentDuty := (if g.rampRate = 0 then g.targetDuty
                else if g.presentDuty < g.targetDuty then min g.targetDuty (g.presentDuty + g.rampRate)
                else max g.targetDuty (g.presentDuty - g.rampRate)) })) ∧
        (∃ raised : List RampEvent, t.events.rampCompletes = s.events.rampCompletes ++ raised ∧ raised.Nodup ∧
          ∀ e : RampEvent, e ∈ raised ↔ ∃ (i : SlotIx) (g g' : Grant), s.ctl.grantAt i = some g ∧
            t.ctl.grantAt i = some g' ∧ g.isActive = true ∧ g.presentDuty ≠ g.targetDuty ∧ g'.presentDuty = g.targetDuty ∧
            e = ⟨s.ctl.table[i].generation.val * 32 + i.val, g.targetDuty⟩) ∧
        (∀ ch : Channel, t.engine[ch].fault = .faulted → t.engine[ch].window = none) ∧
        (∀ ch : Channel, (∀ i g, t.ctl.grantAt i = some g → g.isActive = true → g.channel ≠ ch) →
          t.engine[ch].window = none) ∧
        ∀ (ch : Channel) (i : SlotIx) (g : Grant) (start : Segment) (r : Nat), t.engine[ch].fault = .ok →
          t.ctl.grantAt i = some g → g.state = .active start r → g.channel = ch →
          (∀ j gj, t.ctl.grantAt j = some gj → gj.isActive = true → gj.channel = ch → j = i) →
          (g.presentDuty = 0 → t.engine[ch].window = none) ∧
          (1 ≤ g.presentDuty → ∃ w, t.engine[ch].window = some w ∧ w.start.val = 32 * start.val ∧
            w.length = g.presentDuty)) ∧
      (ReservationBound s → ∀ n : StepIx,
        let k : Segment := ⟨n.val / 32, by omega⟩
        let on (ch : Channel) : Bool := t.engine[ch].window.any fun w =>
          (List.range w.length).any fun m => n.val == (w.start.val + m) % 2048
        (∀ ch : Channel, on ch = true → ∃ i g start r, t.ctl.grantAt i = some g ∧ g.state = .active start r ∧
          g.channel = ch ∧ covers start r k = true) ∧
        (MapExact s → ((List.finRange 16).map fun ch =>
          if on ch then s.config.profiles[ch].current else 0).sum ≤ t.ctl.loadMap[k]))) ∧
  ∀ present target rate n : Nat, 1 ≤ rate →
    rampAfter target rate n present =
      if present ≤ target then min target (present + n * rate) else max target (present - n * rate)

/-- The evaluation of a frame's samples (R163): the count of a checked OK channel rises by 1 with a mismatched sample, is cleared
by a frame of matched ones, and is kept without a sample; that of an unchecked one is cleared (log entry 22). At 3 the channel is
FAULTED, blanked, and raises one channel fault. CHANNEL_BECOMES_FAULTED is the whole frame start that brings this about for its
channel, and changes nothing where none does (the model's choice, log entry 4). -/
def Obligations.EvaluationFaultsChannel : Prop :=
  (∀ (u : ChannelUnit) (p : Profile),
    (u.fault = .faulted → u.evaluate p = u) ∧
    (u.fault = .ok → p.enabled = false ∨ p.readback = false → u.evaluate p = { u with mismatches := 0 }) ∧
    (u.fault = .ok → p.enabled = true → p.readback = true →
      (u.inside = .notTaken → u.outside = .notTaken → u.evaluate p = u) ∧
      (u.inside ≠ .mismatched → u.outside ≠ .mismatched → u.inside = .matched ∨ u.outside = .matched →
        u.evaluate p = { u with mismatches := 0 }) ∧
      (u.inside = .mismatched ∨ u.outside = .mismatched → u.mismatches ≤ 1 →
        u.evaluate p = { u with mismatches := u.mismatches + 1 }) ∧
      (u.inside = .mismatched ∨ u.outside = .mismatched → u.mismatches = 2 →
        u.evaluate p = { u with mismatches := 3, fault := .faulted, window := none }))) ∧
  ∀ (s : State) (n : Nat) (ch : Channel), s.events.engineFrames = n + 1 →
    let faulting : Prop := s.engine[ch].fault = .ok ∧ s.config.profiles[ch].enabled = true ∧
      s.config.profiles[ch].readback = true ∧ 2 ≤ s.engine[ch].mismatches ∧
      (s.engine[ch].inside = .mismatched ∨ s.engine[ch].outside = .mismatched)
    (¬ faulting → exec (.channelBecomesFaulted ch) s = .next s) ∧
    ∃ t : State, exec .engineFrameStart s = .next t ∧
      t.engine[ch].fault = (s.engine[ch].evaluate s.config.profiles[ch]).fault ∧
      t.engine[ch].mismatches = (s.engine[ch].evaluate s.config.profiles[ch]).mismatches ∧
      (faulting → exec (.channelBecomesFaulted ch) s = .next t ∧ t.engine[ch].fault = .faulted ∧
        t.engine[ch].mismatches = 3 ∧ t.engine[ch].window = none) ∧
      ∃ raised : List Channel, t.events.channelFaults = s.events.channelFaults ++ raised ∧ raised.Nodup ∧
        (ch ∈ raised ↔ faulting)

/-- A channel is commanded to its active level at the steps its window covers (R159), driven as its drive and polarity say
(R160), and driven low during a reset (R185). A checked OK channel is sampled at step a + n/2 of its captured window and at
a + n + (2048 − n)/2, at 1024 without a window; the pin is compared with the commanded level of that step, and no other step
samples (R162). While a frame start waits for the engine no sample is taken (the model's choice, log entry 14). -/
def Obligations.PinsAndReadbackSamples : Prop :=
  (∀ (s : State) (ch : Channel),
    (s.inReset = true → s.pin ch = .low) ∧
    (s.inReset = false →
      let profile := s.config.profiles[ch]
      let active : Bool := s.engine[ch].window.any fun w =>
        (List.range w.length).any fun n => s.timer.step.val == (w.start.val + n) % 2048
      s.pin ch = (match profile.drive, profile.polarity with
        | .pushPull, .activeHigh => if active then .high else .low
        | .pushPull, .activeLow => if active then .low else .high
        | .openDrain, .activeHigh => if active then .released else .low
        | .openDrain, .activeLow => if active then .low else .released))) ∧
  ∀ (s : State) (ch : Channel) (high : Bool),
    let u := s.engine[ch]
    let checked : Prop := s.inReset = false ∧ s.events.engineFrames = 0 ∧ s.config.profiles[ch].enabled = true ∧
      s.config.profiles[ch].readback = true ∧ u.fault = .ok
    let commanded : Bool := (s.config.profiles[ch].polarity == .activeHigh) == s.channelActive ch
    let mark : SampleMark := if high = commanded then .matched else .mismatched
    let sampled (u' : ChannelUnit) : Prop :=
      exec (.readbackSample ch high) s = .next { s with engine := s.engine.set ch u' }
    (¬ checked → exec (.readbackSample ch high) s = .next s) ∧
    (checked →
      (u.captured = none → s.timer.step = 1024 → u.outside = .notTaken → sampled { u with outside := mark }) ∧
      (u.captured = none → s.timer.step ≠ 1024 → exec (.readbackSample ch high) s = .next s) ∧
      ∀ w, u.captured = some w → 1 ≤ w.length → w.length ≤ 2048 →
        (s.timer.step.val = (w.start.val + w.length / 2) % 2048 → u.inside = .notTaken →
          sampled { u with inside := mark }) ∧
        (w.length < 2048 → s.timer.step.val = (w.start.val + w.length + (2048 - w.length) / 2) % 2048 →
          u.outside = .notTaken → sampled { u with outside := mark }) ∧
        (s.timer.step.val ≠ (w.start.val + w.length / 2) % 2048 →
          w.length = 2048 ∨ s.timer.step.val ≠ (w.start.val + w.length + (2048 - w.length) / 2) % 2048 →
          exec (.readbackSample ch high) s = .next s))

/-! ## Supply tiers and shedding -/

/-- The down and the up counter (R135, R136): consecutive down frames, band above the supply tier, count, and the N_down-th makes
its own band the supply tier and clears both counters; consecutive up frames count, and the one that reaches the hold-off lowers
the supply tier by 1 and clears both; every other sample clears its counter. DOWN_DEBOUNCE and UP_HOLD_OFF are those samples
(log entry 4), and change nothing where the sample is no such one. -/
def Obligations.DebounceAndHoldOff : Prop :=
  ∀ (s : State) (r : SenseReading) (l : LimitLevels) (n : Nat), s.events.supplyFrames = n + 1 →
    s.config.monitor.enabled = true →
    let m := s.config.monitor
    let below (microvolts code : Nat) : Nat := if microvolts < code * 18750 then 1 else 0
    let band : Nat := below r.atT1 m.t1 + below r.atT2 m.t2 + below r.atT3 m.t3
    let recoveryCode : Nat := (match s.supply.supplyTier with | 0 => 0 | 1 => m.t1 | 2 => m.t2 | 3 => m.t3) + m.hysteresis
    let downFrame : Prop := s.supply.supplyTier.val < band
    let upFrame : Prop := ¬ downFrame ∧ s.supply.supplyTier ≠ 0 ∧ recoveryCode * 18750 ≤ r.atRecovery
    ∃ t : State, exec (.sample r l) s = .next t ∧ t.supply.band.val = band ∧
      t = { s with supply := t.supply, events := t.events } ∧
      t.events = { s.events with supplyFrames := n, tierChanges := t.events.tierChanges } ∧
      (downFrame → s.supply.down + 1 < m.nDown → t.supply.down = s.supply.down + 1 ∧ t.supply.up = 0 ∧
        t.supply.supplyTier = s.supply.supplyTier ∧ exec (.downDebounce r l) s = .next s) ∧
      (downFrame → s.supply.down + 1 = m.nDown → t.supply.down = 0 ∧ t.supply.up = 0 ∧
        t.supply.supplyTier.val = band ∧ s.supply.supplyTier < t.supply.supplyTier ∧
        exec (.downDebounce r l) s = .next t) ∧
      (upFrame → s.supply.up + 1 < m.holdOff → t.supply.up = s.supply.up + 1 ∧ t.supply.down = 0 ∧
        t.supply.supplyTier = s.supply.supplyTier ∧ exec (.upHoldOff r l) s = .next s) ∧
      (upFrame → s.supply.up + 1 = m.holdOff → t.supply.up = 0 ∧ t.supply.down = 0 ∧
        t.supply.supplyTier.val + 1 = s.supply.supplyTier.val ∧ exec (.upHoldOff r l) s = .next t) ∧
      (¬ downFrame → t.supply.down = 0 ∧ exec (.downDebounce r l) s = .next s) ∧
      (¬ upFrame → t.supply.up = 0 ∧ exec (.upHoldOff r l) s = .next s) ∧
      (¬ downFrame → ¬ upFrame → t.supply.supplyTier = s.supply.supplyTier)

/-- Every sample steps the LIMIT pins, two equal samples in a row deciding a pin's state (R138), and recomputes the effective tier
as the largest of the supply tier and the asserted pins' minimum tiers; a change raises one tier change (R139). With the monitor
disabled the supply tier, both counters and the band are 0 (R137). -/
def Obligations.SampleSetsEffectiveTier : Prop :=
  ∀ (s : State) (r : SenseReading) (l : LimitLevels) (n : Nat), s.events.supplyFrames = n + 1 →
    let m := s.config.monitor
    let stepped (set : LimitSetting) (high : Bool) (old new : LimitPin) : Prop :=
      let sample : Bool := if set.activeLow then !high else high
      new.lastSample = some sample ∧ (old.lastSample = some sample → new.asserted = sample) ∧
      (old.lastSample ≠ some sample → new.asserted = old.asserted)
    ∃ t : State, exec (.sample r l) s = .next t ∧
      t = { s with supply := t.supply, events := t.events } ∧
      stepped m.limit0 l.limit0High s.supply.limit0 t.supply.limit0 ∧
      stepped m.limit1 l.limit1High s.supply.limit1 t.supply.limit1 ∧
      t.supply.effective = max t.supply.supplyTier
        (max (if t.supply.limit0.asserted then m.limit0.minTier else 0)
          (if t.supply.limit1.asserted then m.limit1.minTier else 0)) ∧
      t.events = { s.events with supplyFrames := n, tierChanges := s.events.tierChanges +
        if t.supply.effective = s.supply.effective then 0 else 1 } ∧
      (m.enabled = false → t.supply.supplyTier = 0 ∧ t.supply.down = 0 ∧ t.supply.up = 0 ∧ t.supply.band = 0)

/-- A tier change taken: nothing but the event changes when the tier in force is the effective tier; in CONFIG its ceilings are
loaded and no more; a rise in RUN loads them and ends with a retry pass, held back while a repack is in flight (R42, R44, R142,
R148). -/
def Obligations.TierChangeLoadsCeilings : Prop :=
  ∀ (s : State) (n : Nat), s.events.tierChanges = n + 1 →
    let taken : State := { s with events := { s.events with tierChanges := n } }
    let ceilings : Ceilings := match s.supply.effective with
      | 0 => s.config.tiers.tier0
      | 1 => s.config.tiers.tier1
      | 2 => s.config.tiers.tier2
      | 3 => ⟨0, 0⟩
    let loaded : Controller := { s.ctl with
      tierInForce := s.supply.effective, peakInForce := ceilings.peak, chargeInForce := ceilings.charge }
    (s.supply.effective = s.ctl.tierInForce → exec .tierChange s = .next taken) ∧
    (s.supply.effective ≠ s.ctl.tierInForce → s.config.mode = .config →
      exec .tierChange s = .next { taken with ctl := loaded }) ∧
    (s.supply.effective < s.ctl.tierInForce → s.config.mode = .run →
      ∃ t : State, exec .tierChange s = .next t ∧ EventKept s t ∧ t.planner = s.planner ∧ t.events = taken.events ∧
        AlertsExact t ∧ (s.ctl.inFlight = true → SameButSummaries t.ctl loaded) ∧
        (s.ctl.inFlight = false → SameButSummaries t.ctl (loaded.retryPass s.config.profiles)))

/-- A tier drop in RUN: a repack in flight is abandoned and answered NO_ROOM/REPACK_ABANDONED, the new tier's ceilings are loaded,
and ACTIVE grants are shed to DEFERRED with notice SHED, keeping the rest of their records, one at a time, each the choice on what
the sheds before it left, until there is none to choose: below TIER3 none once the map and the charge lie within the ceilings.
The exact map and charge then lie within them, and at TIER3 no grant is ACTIVE. A pass runs after an abandonment alone; without a
repack nothing else changes (R143 to R146). -/
def Obligations.TierDropSheds : Prop :=
  (∀ (s : State) (n : Nat), s.events.tierChanges = n + 1 → s.config.mode = .run → s.ctl.tierInForce < s.supply.effective →
    let ceilings : Ceilings := match s.supply.effective with
      | 0 => s.config.tiers.tier0
      | 1 => s.config.tiers.tier1
      | 2 => s.config.tiers.tier2
      | 3 => ⟨0, 0⟩
    let loaded (c : Controller) : Controller := { c with
      tierInForce := s.supply.effective, peakInForce := ceilings.peak, chargeInForce := ceilings.charge }
    ∃ t : State, exec .tierChange s = .next t ∧ t.ctl.tierInForce = s.supply.effective ∧ CeilingsLoaded t ∧
      t.ctl.inFlight = false ∧ AlertsExact t ∧ t.config = s.config ∧ t.engine = s.engine ∧ t.supply = s.supply ∧
      t.timer = s.timer ∧ t.events = { s.events with tierChanges := n } ∧
      (ListsExact s.ctl → MapExact s → WithinCeilings t.ctl) ∧
      (ListsExact s.ctl → s.supply.effective = 3 → ∀ i : SlotIx, (t.ctl.grantAt i).any Grant.isActive = false) ∧
      (s.ctl.inFlight = false → EventKept s t ∧ t.planner = s.planner ∧
        SameButSummaries t.ctl ((loaded s.ctl).shedAll s.config.profiles) ∧
        ∀ i : SlotIx, t.ctl.table[i] = s.ctl.table[i] ∨
          ∃ g : Grant, s.ctl.grantAt i = some g ∧ g.isActive = true ∧ t.ctl.table[i] =
            ⟨s.ctl.table[i].generation,
              some { g with state := .deferred, notices := { g.notices with shed := true } }⟩) ∧
      ∀ held, s.ctl.inFlight = true → s.ctl.held = some held →
        t.planner.plan = none ∧ t.ctl.held = none ∧ AnsweredHeld t held (.noRoom .repackAbandoned) ∧
        EventKeptHeldAnswered s t held ∧
        SameButSummaries t.ctl (((loaded (withoutRepack s.ctl)).shedAll s.config.profiles).retryPass s.config.profiles)) ∧
  ∀ (profiles : Vector Profile 16) (c : Controller),
    (∀ (i : SlotIx) (g : Grant), c.grantAt i = some g → c.shed profiles i = ((c.detach profiles i).putGrant i
      { g with state := .deferred, notices := { g.notices with shed := true } }).enterWaiting i) ∧
    (c.tierInForce ≠ 3 → WithinCeilings c → c.shedAll profiles = c) ∧
    ∃ sheds : List SlotIx,
      let shedding (l : List SlotIx) : Controller := l.foldl (fun d i => d.shed profiles i) c
      c.shedAll profiles = shedding sheds ∧ (c.shedAll profiles).nextShed = none ∧
      ∀ before i after, sheds = before ++ i :: after → (shedding before).nextShed = some i

/-- The choice of the next grant to shed below TIER3 (R144): for the lowest-numbered segment above the peak ceiling among the
ACTIVE grants that cover it, otherwise for charge among those with a reservation; of these the one of lowest priority, and
among equals the one latest in the admission list. At TIER3 every ACTIVE grant is a candidate (R146). -/
def Obligations.ShedChoosesLowestLatest : Prop :=
  ∀ (c : Controller) (i : SlotIx), ListsExact c → c.nextShed = some i →
    let lowest (candidate : Grant → Prop) : Prop :=
      ∃ g before after, c.grantAt i = some g ∧ g.isActive = true ∧ candidate g ∧ c.admission = before ++ i :: after ∧
        ∀ j gj, c.grantAt j = some gj → gj.isActive = true → candidate gj →
          g.priority ≤ gj.priority ∧ (gj.priority = g.priority → j ∈ before ∨ j = i)
    (c.tierInForce = 3 → lowest fun _ => True) ∧
    (c.tierInForce ≠ 3 →
      (∀ k : Segment, c.peakInForce < c.loadMap[k] → (∀ k' : Segment, k' < k → c.loadMap[k'] ≤ c.peakInForce) →
        lowest fun g => ∃ start r, g.state = .active start r ∧ covers start r k = true) ∧
      ((∀ k : Segment, c.loadMap[k] ≤ c.peakInForce) →
        c.chargeInForce < c.totalCharge ∧ lowest fun g => ∃ start r, g.state = .active start r ∧ 1 ≤ r))

/-! ## Events the grant controller takes -/

/-- A lease tick taken in RUN lowers the lease remaining of every living grant that has a lease; one that reaches 0 closes its
grant with reason EXPIRED and notice CLOSED; CLOSED grants and grants without a lease are passed over. Otherwise a grant is kept
but for what the retry pass does to waiting ones. The pass runs after the last slot, if the tick closed a holder or abandoned a
repack by closing its adjusted grant (R71, R96). In CONFIG nothing but the event changes (R115, R116). LEASE_EXPIRY is the tick that
expires its slot's grant (log entry 4), and changes nothing where none does: in CONFIG, at a FREE slot, for a CLOSED grant, one
without a lease, and one with 2 or more ticks left. Without a raised tick neither changes anything (log entry 2). -/
def Obligations.LeaseTickCountsAndExpires : Prop :=
  (∀ s : State, s.events.leaseTicks = 0 → exec .leaseTick s = .next s ∧ ∀ i : SlotIx, exec (.leaseExpiry i) s = .next s) ∧
  ∀ (s : State) (n : Nat), s.events.leaseTicks = n + 1 →
    (s.config.mode = .config →
      exec .leaseTick s = .next { s with events := { s.events with leaseTicks := n } } ∧
      ∀ i : SlotIx, exec (.leaseExpiry i) s = .next s) ∧
    (s.config.mode = .run →
      ∃ t : State, exec .leaseTick s = .next t ∧ t.events = { s.events with leaseTicks := n } ∧ t.config = s.config ∧
        t.engine = s.engine ∧ t.supply = s.supply ∧ t.timer = s.timer ∧ AlertsExact t ∧
        (s.ctl.inFlight = false → EventKept s t ∧ t.planner = s.planner) ∧
        (∀ i : SlotIx, (leaseEnds s.ctl i → exec (.leaseExpiry i) s = .next t) ∧
          (¬ leaseEnds s.ctl i → exec (.leaseExpiry i) s = .next s)) ∧
        ((∀ i, leaseEnds s.ctl i → s.ctl.adjusting i = false) → EventKept s t ∧ t.planner = s.planner ∧
          ((∀ i, leaseEnds s.ctl i → (s.ctl.grantAt i).any Grant.holds = false) →
            SameButSummaries t.ctl (leaseTickAll s.config.profiles s.ctl)) ∧
          ∀ i, leaseEnds s.ctl i → (s.ctl.grantAt i).any Grant.holds = true →
            SameButSummaries t.ctl ((leaseTickAll s.config.profiles s.ctl).passIf s.config.profiles true)) ∧
        (∀ i, leaseEnds s.ctl i → s.ctl.adjusting i = true →
          SameButSummaries t.ctl ((leaseTickAll s.config.profiles (withoutRepack s.ctl)).retryPass s.config.profiles)) ∧
        ∀ i : SlotIx, t.ctl.table[i].generation = s.ctl.table[i].generation ∧
          (s.ctl.grantAt i = none → t.ctl.grantAt i = none) ∧
          ∀ g : Grant, s.ctl.grantAt i = some g →
            (g.isClosed = true ∨ (g.leaseRemaining = none ∧ g.isActive = true) → t.ctl.grantAt i = some g) ∧
            (g.isLiving = true → g.leaseRemaining = some 1 →
              t.ctl.grantAt i = some { g with
                state := .closed .expired, leaseRemaining := some 0, notices := { g.notices with closed := true } } ∧
              exec (.leaseExpiry i) s = .next t) ∧
            (∀ m, g.isLiving = true → g.leaseRemaining = some (m + 2) →
              (g.isActive = true → t.ctl.grantAt i = some { g with leaseRemaining := some (m + 1) }) ∧
              (∃ g', t.ctl.grantAt i = some g' ∧ g'.leaseRemaining = some (m + 1) ∧ g'.isLiving = true ∧
                g'.presentDuty = g.presentDuty ∧ g'.targetDuty = g.targetDuty) ∧
              exec (.leaseExpiry i) s = .next s) ∧
            ∀ held, g.isLiving = true → g.leaseRemaining = some 1 → s.ctl.adjusting i = true → s.ctl.held = some held →
              t.ctl.inFlight = false ∧ AnsweredHeld t held (.noRoom .repackAbandoned) ∧ EventKeptHeldAnswered s t held)

/-- A ramp complete taken in RUN for an ACTIVE grant whose target is the duty carried and has been reached shrinks its reservation
to the footprint of the target, giving back the segments and the charge above it, adds RAMP_DONE when its ramp notify is yes, and
is followed by a retry pass if it shrank and no repack is in flight (R107, R71, R72). Every other one is ignored: it changes
nothing but the event (R108). -/
def Obligations.RampCompleteTaken : Prop :=
  ∀ (s : State) (h duty : Nat), (⟨h, duty⟩ : RampEvent) ∈ s.events.rampCompletes →
    let taken : State := { s with events := { s.events with rampCompletes := s.events.rampCompletes.erase ⟨h, duty⟩ } }
    (s.config.mode = .config → exec (.rampComplete h duty) s = .next taken) ∧
    (s.ctl.lookup h = none → exec (.rampComplete h duty) s = .next taken) ∧
    (∀ i g, s.ctl.lookup h = some (i, g) →
      g.isActive = false ∨ g.targetDuty ≠ duty ∨ g.presentDuty ≠ g.targetDuty →
      exec (.rampComplete h duty) s = .next taken) ∧
    ∀ i g start r, Names s h i g → g.state = .active start r → g.targetDuty = duty → g.presentDuty = duty → r ≤ 64 →
      ∃ t : State, exec (.rampComplete h duty) s = .next t ∧ EventKept s t ∧ t.planner = s.planner ∧
        t.events = taken.events ∧ AlertsExact t ∧ CeilingsAndRepackKept s.ctl t.ctl ∧
        t.ctl.table[i] = ⟨s.ctl.table[i].generation, some { g with
          state := .active start (min r (footprint duty))
          notices := { g.notices with rampDone := g.notices.rampDone || g.rampNotify } }⟩ ∧
        OtherSlotsKeptButWaiting s.ctl t.ctl i ∧
        (let done : Grant := { g with
           state := .active start (min r (footprint duty))
           notices := { g.notices with rampDone := g.notices.rampDone || g.rampNotify } }
         (r ≤ footprint duty → SameButSummaries t.ctl (s.ctl.putGrant i done)) ∧
         (footprint duty < r → SameButSummaries t.ctl
           (((s.ctl.resize s.config.profiles i (footprint duty)).putGrant i done).passIf s.config.profiles true))) ∧
        (r ≤ footprint duty ∨ s.ctl.inFlight = true → OtherSlotsKept s.ctl t.ctl i ∧
          t.ctl.admission = s.ctl.admission ∧ t.ctl.waiting = s.ctl.waiting ∧
          t.ctl.totalCharge = s.ctl.totalCharge - s.config.profiles[g.channel].current * (r - footprint duty) ∧
          ∀ k : Segment, t.ctl.loadMap[k] = s.ctl.loadMap[k] -
            if covers start r k && !covers start (footprint duty) k then s.config.profiles[g.channel].current else 0)

/-- A channel fault taken in RUN closes every living grant of the channel with reason CHANNEL_FAULT and notice CLOSED, in whatever
fault state the channel is; every other grant is kept but for what the retry pass does to waiting ones. The repack of a GRANT
for the channel, or of an ADJUST whose grant the fault closes, is abandoned first. The holder is closed, then the QUEUED grants in
list order, and a retry pass follows if a grant was closed or a repack abandoned (R71). In CONFIG nothing but the event changes
(R165, R96). -/
def Obligations.ChannelFaultClosesGrants : Prop :=
  ∀ (s : State) (ch : Channel), ch ∈ s.events.channelFaults →
    let taken : Events := { s.events with channelFaults := s.events.channelFaults.erase ch }
    (s.config.mode = .config → exec (.channelFault ch) s = .next { s with events := taken }) ∧
    (s.config.mode = .run → ListsExact s.ctl → OneHolder s.ctl →
      ∃ t : State, exec (.channelFault ch) s = .next t ∧ t.events = taken ∧ t.config = s.config ∧ t.engine = s.engine ∧
        t.supply = s.supply ∧ t.timer = s.timer ∧ AlertsExact t ∧
        (∀ i : SlotIx, t.ctl.table[i].generation = s.ctl.table[i].generation ∧
          (s.ctl.grantAt i = none → t.ctl.grantAt i = none) ∧
          ∀ g : Grant, s.ctl.grantAt i = some g →
            (g.isLiving = true → g.channel = ch → t.ctl.grantAt i = some { g with
              state := .closed .channelFault, notices := { g.notices with closed := true } }) ∧
            (g.isActive = true ∨ g.isClosed = true → g.channel ≠ ch ∨ g.isClosed = true →
              t.ctl.grantAt i = some g)) ∧
        (s.ctl.inFlight = false → EventKept s t ∧ t.planner = s.planner) ∧
        let closing := livingOnChannel s.ctl ch
        let closed (before : Controller) : Controller :=
          closing.foldl (fun d i => d.retire s.config.profiles i .channelFault) before
        let abandoned (held : HeldRequest) : Prop := t.ctl.inFlight = false ∧ t.planner.plan = none ∧
          SameButSummaries t.ctl ((closed (withoutRepack s.ctl)).retryPass s.config.profiles) ∧
          AnsweredHeld t held (.noRoom .repackAbandoned) ∧ EventKeptHeldAnswered s t held
        (∀ held prio duty lease, s.ctl.inFlight = true → s.ctl.held = some held →
          held.kind = .grant ch prio duty lease → abandoned held) ∧
        (∀ held i g, s.ctl.adjusting i = true → s.ctl.held = some held → s.ctl.grantAt i = some g → g.isLiving = true →
          g.channel = ch → abandoned held) ∧
        ((∀ held prio duty lease, s.ctl.inFlight = true → s.ctl.held = some held →
            held.kind ≠ .grant ch prio duty lease) →
          (∀ i g, s.ctl.grantAt i = some g → g.isLiving = true → g.channel = ch → s.ctl.adjusting i = false) →
          EventKept s t ∧ t.planner = s.planner ∧ CeilingsAndRepackKept s.ctl t.ctl ∧
          SameButSummaries t.ctl ((closed s.ctl).passIf s.config.profiles (!closing.isEmpty))))

/-! ## The end of a repack -/

/-- A plan event of the repack in flight, taken in PLANNING with the controller's serial: plan complete makes the condition
APPLY_PENDING and changes nothing else; plan failed ends the repack, runs the held-back pass and answers NO_ROOM/REPACK_FAILED.
Any other plan event is ignored (R85 to R87). -/
def Obligations.PlanEventsTaken : Prop :=
  ∀ (s : State) (serial : Byte) (complete : Bool), (⟨complete, serial⟩ : PlanEvent) ∈ s.events.planEvents →
    let taken : State :=
      { s with events := { s.events with planEvents := s.events.planEvents.erase ⟨complete, serial⟩ } }
    let command : Instr := if complete then .planComplete serial else .planFailed serial
    (s.ctl.repack ≠ .planning ∨ s.ctl.planSerial ≠ serial → exec command s = .next taken) ∧
    (s.ctl.repack = .planning → s.ctl.planSerial = serial →
      (complete = true → exec command s = .next { taken with ctl := { s.ctl with repack := .applyPending } }) ∧
      ∀ held, complete = false → s.ctl.held = some held →
        ∃ t, exec command s = .next t ∧ t.ctl.repack = .idle ∧ t.ctl.held = none ∧ t.planner.plan = none ∧
          SameButSummaries t.ctl (({ s.ctl with repack := .idle, held := none } : Controller).retryPass
            s.config.profiles) ∧
          t.events = taken.events ∧ AlertsExact t ∧ t.config = s.config ∧ t.engine = s.engine ∧
          AnsweredHeld t held (.noRoom .repackFailed) ∧ EventKeptHeldAnswered s t held)

/-- A frame start taken by the grant controller in APPLY_PENDING applies the plan: each planned grant still ACTIVE takes its start
and keeps its reservation, the adjusted grant takes its need, target, rate and notify, the GRANT's grant is created in the lowest
FREE slot at the tail of the admission list, map and charge are rebuilt as the sums over the ACTIVE grants (R39), the condition
becomes NONE, a retry pass runs and the requester is answered OK. In any other condition it changes nothing but the event (R87,
R88). -/
def Obligations.RepackApplied : Prop :=
  ∀ (s : State) (n : Nat), s.events.controllerFrames = n + 1 →
    (s.ctl.repack ≠ .applyPending →
      exec .repackApply s = .next { s with events := { s.events with controllerFrames := n } }) ∧
    ∀ held plan, s.ctl.repack = .applyPending → s.ctl.held = some held → s.planner.plan = some plan →
      (plan.map fun q => q.entry.slot).Nodup →
      ∃ t : State, exec .repackApply s = .next t ∧ t.ctl.repack = .idle ∧ t.ctl.held = none ∧ t.planner.plan = none ∧
        AlertsExact t ∧ t.config = s.config ∧ t.timer = s.timer ∧ t.engine = s.engine ∧ t.supply = s.supply ∧
        EventKeptHeldAnswered s t held ∧ t.events = { s.events with controllerFrames := n } ∧
        (let applied := appliedController s.ctl s.config.profiles held plan
         SameButSummaries t.ctl (applied.retryPass s.config.profiles) ∧
         (∀ k : Segment, applied.loadMap[k] = ((List.finRange 32).map fun i => ((applied.grantAt i).map fun g =>
           match g.state with
           | .active start r => if covers start r k then s.config.profiles[g.channel].current else 0
           | _ => 0).getD 0).sum) ∧
         applied.totalCharge = ((List.finRange 32).map fun i => ((applied.grantAt i).map fun g =>
           match g.state with
           | .active _ r => s.config.profiles[g.channel].current * r
           | _ => 0).getD 0).sum ∧
         applied.waiting = s.ctl.waiting ∧ applied.tierInForce = s.ctl.tierInForce ∧
         applied.peakInForce = s.ctl.peakInForce ∧ applied.chargeInForce = s.ctl.chargeInForce ∧
         applied.planSerial = s.ctl.planSerial ∧
         (∀ i : SlotIx, applied.table[i].generation = s.ctl.table[i].generation) ∧
         (∀ handle target, held.kind = .adjust handle target → applied.admission = s.ctl.admission ∧
           ∀ i : SlotIx, s.ctl.grantAt i = none → applied.grantAt i = none) ∧
         (∀ ch prio duty lease i, held.kind = .grant ch prio duty lease → LowestFree s.ctl i →
           (∃ q ∈ plan, q.entry.slot = none) → applied.admission = s.ctl.admission ++ [i]) ∧
         ∀ (i : SlotIx) (g : Grant), s.ctl.grantAt i = some g →
           g.isActive = false ∨ (∀ q ∈ plan, q.entry.slot ≠ some i) → applied.grantAt i = some g) ∧
        (∀ (i : SlotIx) (g : Grant), s.ctl.grantAt i = some g → g.waits = false → g.isActive = false →
          t.ctl.grantAt i = some g) ∧
        (∀ (q : Proposal) (i : SlotIx) (g : Grant) (start : Segment) (r : Nat), q ∈ plan → q.entry.slot = some i →
          s.ctl.grantAt i = some g → g.state = .active start r → s.ctl.adjusting i = false →
          t.ctl.grantAt i = some { g with state := .active q.start r }) ∧
        (∀ (handle target : Nat) (q : Proposal) (i : SlotIx) (g : Grant), held.kind = .adjust handle target → q ∈ plan →
          q.entry.slot = some i → s.ctl.lookup handle = some (i, g) → g.isActive = true →
          t.ctl.grantAt i = some { g with
            state := .active q.start held.needed, targetDuty := target, rampRate := held.rampRate,
            rampNotify := held.rampNotify } ∧
          Answered t held.port (BitVec.ofNat 8 held.client.val) 0x02 .ok
            (put16 handle ++ [1] ++ put16 target ++ put16 g.presentDuty ++ put8 held.rampRate ++
              put8 (if held.rampNotify then 1 else 0) ++ put8 q.start.val ++ put8 held.needed)) ∧
        ∀ (ch : Channel) (prio : Priority) (duty lease : Nat) (q : Proposal) (i : SlotIx),
          held.kind = .grant ch prio duty lease → q ∈ plan → q.entry.slot = none → LowestFree s.ctl i →
          t.ctl.table[i] = ⟨s.ctl.table[i].generation, some
            { state := .active q.start held.needed, owner := held.client, channel := ch, priority := prio,
              targetDuty := duty, presentDuty := 0, rampRate := held.rampRate, rampNotify := held.rampNotify,
              leaseLength := lease, leaseRemaining := (if lease = 0 then none else some lease),
              notices := { admitted := false, shed := false, preempted := false, rampDone := false, closed := false } }⟩ ∧
          Answered t held.port (BitVec.ofNat 8 held.client.val) 0x01 .ok
            (put16 (s.ctl.table[i].generation.val * 32 + i.val) ++ [1] ++ put8 q.start.val ++ put8 held.needed ++
              [0xFF, 0xFF, 0xFF])

/-! ## Hard reset -/

/-- A hard reset returns every block to the values R2, R46, R79, R132, R155, R177, R180, R185, R186 and R193 give, whatever a
transaction was doing, discards the events raised and not yet taken (R113 of the ramp completes; of the others log entry 10), and
the part then takes nothing. The end of a reset lets the first frame begin, latches Port B's address
from ADDR1 and ADDR0, and has a transaction on the wire ignored to its end, whatever it is: it clears the port's mark and changes
nothing else (R154, R186, R191; what a command does during a reset, and the bytes of the transaction ignored, are log entries 8
and 9). -/
def Obligations.HardResetAndEnd : Prop :=
  (∀ s : State, ∃ t : State, exec .hardReset s = .next t ∧ t.inReset = true ∧ t.pending = s.pending ∧
    t.config.mode = .config ∧ t.config.divider = 8 ∧ t.config.leaseExponent = 4 ∧
    (∀ ch : Channel, t.config.profiles[ch] =
      { enabled := false, drive := .pushPull, polarity := .activeHigh, current := 1, maxDuty := 2048,
        home := ⟨4 * ch.val % 64, Nat.mod_lt _ (by decide)⟩, pinned := false, defaultRamp := 0, readback := false }) ∧
    t.config.tiers = { tier0 := ⟨1000, 32000⟩, tier1 := ⟨500, 16000⟩, tier2 := ⟨250, 8000⟩ } ∧
    t.config.monitor = { enabled := false, t1 := 48, t2 := 40, t3 := 32, hysteresis := 2, nDown := 3, holdOff := 500,
                         limit0 := ⟨false, 0⟩, limit1 := ⟨false, 0⟩ } ∧
    (∀ i : SlotIx, t.ctl.table[i] = ⟨0, none⟩) ∧ t.ctl.waiting = [] ∧ t.ctl.admission = [] ∧
    (∀ k : Segment, t.ctl.loadMap[k] = 0) ∧ t.ctl.totalCharge = 0 ∧ t.ctl.tierInForce = 0 ∧ t.ctl.peakInForce = 1000 ∧
    t.ctl.chargeInForce = 32000 ∧ t.ctl.repack = .idle ∧ t.ctl.held = none ∧ t.ctl.planSerial = 0 ∧
    t.planner.plan = none ∧ t.timer = { step := 0, frameCount := 0, countDue := false } ∧
    t.events = { engineFrames := 0, supplyFrames := 0, controllerFrames := 0, leaseTicks := 0, tierChanges := 0,
                 rampCompletes := [], channelFaults := [], planEvents := [] } ∧
    (∀ ch : Channel, t.engine[ch].window = none ∧ t.engine[ch].fault = .ok ∧ t.engine[ch].mismatches = 0 ∧
      t.engine[ch].inside = .notTaken ∧ t.engine[ch].outside = .notTaken ∧ t.pin ch = .low) ∧
    t.supply = { supplyTier := 0, down := 0, up := 0, band := 0, limit0 := ⟨none, false⟩, limit1 := ⟨none, false⟩,
                 effective := 0 } ∧
    (∀ p : Port, (t.port p).state = .idle ∧ (t.port p).request = none ∧ (t.port p).response = none ∧
      (t.port p).verdict = none ∧ (t.port p).alertLow = false) ∧ t.preferred = .a ∧
    ∀ (addr1 addr0 onWireA onWireB : Bool) (mosi : List Byte) (address : BitVec 7) (bytes : List Byte),
      exec (.requestTransaction mosi) t = .next t ∧ exec (.i2cWriteTransaction address bytes) t = .next t ∧
      exec .stepCounterAdvance t = .next t ∧
      exec (.resetEnd addr1 addr0 onWireA onWireB) t = .next
        { t with inReset := false, addressB := 0x2C + (if addr1 then 2 else 0) + (if addr0 then 1 else 0)
                 portA := { t.portA with ignoring := onWireA }, portB := { t.portB with ignoring := onWireB } }) ∧
  (∀ s : State, s.inReset = false →
    let ignoredA (n : Nat) : State :=
      { s with portA := { s.portA with ignoring := false, wire := ⟨[], List.replicate (n + 1) 0xFF⟩ } }
    let ignoredB : State := { s with portB := { s.portB with ignoring := false, wire := ⟨[], []⟩ } }
    (s.portA.ignoring = true →
      (∀ mosi : List Byte, exec (.requestTransaction mosi) s = .next (ignoredA mosi.length)) ∧
      (∀ n : Nat, exec (.readTransaction n) s = .next (ignoredA n)) ∧
      ∀ (kind : Byte) (n : Nat), kind ≠ 0x3C → kind ≠ 0xC3 →
        exec (.unknownTransactionKind kind n) s = .next (ignoredA n)) ∧
    (s.portB.ignoring = true →
      (∀ (address : BitVec 7) (bytes : List Byte), exec (.i2cWriteTransaction address bytes) s = .next ignoredB) ∧
      ∀ (address : BitVec 7) (n : Nat), exec (.i2cReadTransaction address n) s = .next ignoredB)) ∧
  ∀ (s : State) (addr1 addr0 onWireA onWireB : Bool),
    (s.inReset = true → exec (.resetEnd addr1 addr0 onWireA onWireB) s = .next
      { s with inReset := false, addressB := 0x2C + (if addr1 then 2 else 0) + (if addr0 then 1 else 0)
               portA := { s.portA with ignoring := onWireA }, portB := { s.portB with ignoring := onWireB } }) ∧
    (s.inReset = false → exec (.resetEnd addr1 addr0 onWireA onWireB) s = .next s)
end

