-- ==== Sys2Proof/Laws/State.lean ====
section
/-! SUPPORT. The record lemmas of the state: one for each field each update reads back, so that no later proof unfolds an
update. -/

namespace Sys2Proof.Laws

open Sys2Proof Sys2Proof.Machine

/-! ## withCtl -/

@[simp] theorem withCtl_inReset (s : State) (c : Controller) : (s.withCtl c).inReset = s.inReset := rfl
@[simp] theorem withCtl_config (s : State) (c : Controller) : (s.withCtl c).config = s.config := rfl
@[simp] theorem withCtl_ctl (s : State) (c : Controller) : (s.withCtl c).ctl = c := rfl
@[simp] theorem withCtl_planner (s : State) (c : Controller) : (s.withCtl c).planner = s.planner := rfl
@[simp] theorem withCtl_timer (s : State) (c : Controller) : (s.withCtl c).timer = s.timer := rfl
@[simp] theorem withCtl_engine (s : State) (c : Controller) : (s.withCtl c).engine = s.engine := rfl
@[simp] theorem withCtl_supply (s : State) (c : Controller) : (s.withCtl c).supply = s.supply := rfl
@[simp] theorem withCtl_portA (s : State) (c : Controller) : (s.withCtl c).portA = s.portA := rfl
@[simp] theorem withCtl_portB (s : State) (c : Controller) : (s.withCtl c).portB = s.portB := rfl
@[simp] theorem withCtl_addressB (s : State) (c : Controller) : (s.withCtl c).addressB = s.addressB := rfl
@[simp] theorem withCtl_preferred (s : State) (c : Controller) : (s.withCtl c).preferred = s.preferred := rfl
@[simp] theorem withCtl_events (s : State) (c : Controller) : (s.withCtl c).events = s.events := rfl
@[simp] theorem withCtl_pending (s : State) (c : Controller) : (s.withCtl c).pending = s.pending := rfl
@[simp] theorem withCtl_port (s : State) (c : Controller) (p : Port) : (s.withCtl c).port p = s.port p := by cases p <;> rfl
@[simp] theorem withCtl_withCtl (s : State) (c d : Controller) : (s.withCtl c).withCtl d = s.withCtl d := rfl
@[simp] theorem withCtl_self (s : State) : s.withCtl s.ctl = s := rfl

/-! ## Ports -/

@[simp] theorem otherPort_otherPort (p : Port) : otherPort (otherPort p) = p := by cases p <;> rfl
@[simp] theorem otherPort_ne (p : Port) : otherPort p ≠ p := by cases p <;> decide
@[simp] theorem ne_otherPort (p : Port) : p ≠ otherPort p := by cases p <;> decide
theorem eq_otherPort_of_ne {p q : Port} (h : q ≠ p) : q = otherPort p := by
  cases p <;> cases q <;> first | rfl | exact absurd rfl h
@[simp] theorem setPort_port_same (s : State) (p : Port) (u : PortUnit) : (s.setPort p u).port p = u := by cases p <;> rfl
@[simp] theorem setPort_port_other (s : State) (p : Port) (u : PortUnit) :
    (s.setPort p u).port (otherPort p) = s.port (otherPort p) := by cases p <;> rfl
theorem setPort_port_of_ne (s : State) {p q : Port} (u : PortUnit) (h : q ≠ p) : (s.setPort p u).port q = s.port q := by
  cases p <;> cases q <;> first | rfl | exact absurd rfl h
@[simp] theorem setPort_self (s : State) (p : Port) : s.setPort p (s.port p) = s := by cases p <;> rfl
@[simp] theorem setPort_setPort (s : State) (p : Port) (u v : PortUnit) : (s.setPort p u).setPort p v = s.setPort p v := by
  cases p <;> rfl
@[simp] theorem setPort_inReset (s : State) (p : Port) (u : PortUnit) : (s.setPort p u).inReset = s.inReset := by cases p <;> rfl
@[simp] theorem setPort_config (s : State) (p : Port) (u : PortUnit) : (s.setPort p u).config = s.config := by cases p <;> rfl
@[simp] theorem setPort_ctl (s : State) (p : Port) (u : PortUnit) : (s.setPort p u).ctl = s.ctl := by cases p <;> rfl
@[simp] theorem setPort_planner (s : State) (p : Port) (u : PortUnit) : (s.setPort p u).planner = s.planner := by cases p <;> rfl
@[simp] theorem setPort_timer (s : State) (p : Port) (u : PortUnit) : (s.setPort p u).timer = s.timer := by cases p <;> rfl
@[simp] theorem setPort_engine (s : State) (p : Port) (u : PortUnit) : (s.setPort p u).engine = s.engine := by cases p <;> rfl
@[simp] theorem setPort_supply (s : State) (p : Port) (u : PortUnit) : (s.setPort p u).supply = s.supply := by cases p <;> rfl
@[simp] theorem setPort_addressB (s : State) (p : Port) (u : PortUnit) : (s.setPort p u).addressB = s.addressB := by cases p <;> rfl
@[simp] theorem setPort_preferred (s : State) (p : Port) (u : PortUnit) : (s.setPort p u).preferred = s.preferred := by cases p <;> rfl
@[simp] theorem setPort_events (s : State) (p : Port) (u : PortUnit) : (s.setPort p u).events = s.events := by cases p <;> rfl
@[simp] theorem setPort_pending (s : State) (p : Port) (u : PortUnit) : (s.setPort p u).pending = s.pending := by cases p <;> rfl

/-! ## markTaken -/

@[simp] theorem markTaken_inReset (s : State) (p : Port) (r : Request) : (s.markTaken p r).inReset = s.inReset := by cases p <;> rfl
@[simp] theorem markTaken_config (s : State) (p : Port) (r : Request) : (s.markTaken p r).config = s.config := by cases p <;> rfl
@[simp] theorem markTaken_ctl (s : State) (p : Port) (r : Request) : (s.markTaken p r).ctl = s.ctl := by cases p <;> rfl
@[simp] theorem markTaken_planner (s : State) (p : Port) (r : Request) : (s.markTaken p r).planner = s.planner := by cases p <;> rfl
@[simp] theorem markTaken_timer (s : State) (p : Port) (r : Request) : (s.markTaken p r).timer = s.timer := by cases p <;> rfl
@[simp] theorem markTaken_engine (s : State) (p : Port) (r : Request) : (s.markTaken p r).engine = s.engine := by cases p <;> rfl
@[simp] theorem markTaken_supply (s : State) (p : Port) (r : Request) : (s.markTaken p r).supply = s.supply := by cases p <;> rfl
@[simp] theorem markTaken_addressB (s : State) (p : Port) (r : Request) : (s.markTaken p r).addressB = s.addressB := by cases p <;> rfl
@[simp] theorem markTaken_events (s : State) (p : Port) (r : Request) : (s.markTaken p r).events = s.events := by cases p <;> rfl
@[simp] theorem markTaken_pending (s : State) (p : Port) (r : Request) : (s.markTaken p r).pending = s.pending := by cases p <;> rfl
@[simp] theorem markTaken_preferred (s : State) (p : Port) (r : Request) : (s.markTaken p r).preferred = otherPort p := rfl
@[simp] theorem markTaken_port_same (s : State) (p : Port) (r : Request) :
    (s.markTaken p r).port p = { s.port p with request := some ⟨r, .taken⟩ } := by cases p <;> rfl
@[simp] theorem markTaken_port_other (s : State) (p : Port) (r : Request) :
    (s.markTaken p r).port (otherPort p) = s.port (otherPort p) := by cases p <;> rfl

/-! ## writeResponse, answer, answerHeld -/

@[simp] theorem writeResponse_inReset (s : State) (p : Port) (r : Response) : (s.writeResponse p r).inReset = s.inReset := by cases p <;> rfl
@[simp] theorem writeResponse_config (s : State) (p : Port) (r : Response) : (s.writeResponse p r).config = s.config := by cases p <;> rfl
@[simp] theorem writeResponse_ctl (s : State) (p : Port) (r : Response) : (s.writeResponse p r).ctl = s.ctl := by cases p <;> rfl
@[simp] theorem writeResponse_planner (s : State) (p : Port) (r : Response) : (s.writeResponse p r).planner = s.planner := by cases p <;> rfl
@[simp] theorem writeResponse_timer (s : State) (p : Port) (r : Response) : (s.writeResponse p r).timer = s.timer := by cases p <;> rfl
@[simp] theorem writeResponse_engine (s : State) (p : Port) (r : Response) : (s.writeResponse p r).engine = s.engine := by cases p <;> rfl
@[simp] theorem writeResponse_supply (s : State) (p : Port) (r : Response) : (s.writeResponse p r).supply = s.supply := by cases p <;> rfl
@[simp] theorem writeResponse_addressB (s : State) (p : Port) (r : Response) : (s.writeResponse p r).addressB = s.addressB := by cases p <;> rfl
@[simp] theorem writeResponse_preferred (s : State) (p : Port) (r : Response) : (s.writeResponse p r).preferred = s.preferred := by cases p <;> rfl
@[simp] theorem writeResponse_events (s : State) (p : Port) (r : Response) : (s.writeResponse p r).events = s.events := by cases p <;> rfl
@[simp] theorem writeResponse_pending (s : State) (p : Port) (r : Response) : (s.writeResponse p r).pending = s.pending := by cases p <;> rfl
@[simp] theorem writeResponse_port_same (s : State) (p : Port) (r : Response) :
    (s.writeResponse p r).port p = { s.port p with state := .ready, request := none, response := some r } := by
  cases p <;> rfl
@[simp] theorem writeResponse_port_other (s : State) (p : Port) (r : Response) :
    (s.writeResponse p r).port (otherPort p) = s.port (otherPort p) := by cases p <;> rfl
theorem writeResponse_port_of_ne (s : State) {p q : Port} (r : Response) (h : q ≠ p) :
    (s.writeResponse p r).port q = s.port q := setPort_port_of_ne s _ h

@[simp] theorem answer_inReset (t : Taken) (r : Result) (pl : List Byte) (s : State) : (answer t r pl s).inReset = s.inReset := writeResponse_inReset _ _ _
@[simp] theorem answer_config (t : Taken) (r : Result) (pl : List Byte) (s : State) : (answer t r pl s).config = s.config := writeResponse_config _ _ _
@[simp] theorem answer_ctl (t : Taken) (r : Result) (pl : List Byte) (s : State) : (answer t r pl s).ctl = s.ctl := writeResponse_ctl _ _ _
@[simp] theorem answer_planner (t : Taken) (r : Result) (pl : List Byte) (s : State) : (answer t r pl s).planner = s.planner := writeResponse_planner _ _ _
@[simp] theorem answer_timer (t : Taken) (r : Result) (pl : List Byte) (s : State) : (answer t r pl s).timer = s.timer := writeResponse_timer _ _ _
@[simp] theorem answer_engine (t : Taken) (r : Result) (pl : List Byte) (s : State) : (answer t r pl s).engine = s.engine := writeResponse_engine _ _ _
@[simp] theorem answer_supply (t : Taken) (r : Result) (pl : List Byte) (s : State) : (answer t r pl s).supply = s.supply := writeResponse_supply _ _ _
@[simp] theorem answer_addressB (t : Taken) (r : Result) (pl : List Byte) (s : State) : (answer t r pl s).addressB = s.addressB := writeResponse_addressB _ _ _
@[simp] theorem answer_preferred (t : Taken) (r : Result) (pl : List Byte) (s : State) : (answer t r pl s).preferred = s.preferred := writeResponse_preferred _ _ _
@[simp] theorem answer_events (t : Taken) (r : Result) (pl : List Byte) (s : State) : (answer t r pl s).events = s.events := writeResponse_events _ _ _
@[simp] theorem answer_pending (t : Taken) (r : Result) (pl : List Byte) (s : State) : (answer t r pl s).pending = s.pending := writeResponse_pending _ _ _
@[simp] theorem answer_port_same (t : Taken) (r : Result) (pl : List Byte) (s : State) :
    (answer t r pl s).port t.port =
      { s.port t.port with state := .ready, request := none, response := some ⟨t.client, t.code, r, pl⟩ } :=
  writeResponse_port_same _ _ _
@[simp] theorem answer_port_other (t : Taken) (r : Result) (pl : List Byte) (s : State) :
    (answer t r pl s).port (otherPort t.port) = s.port (otherPort t.port) := writeResponse_port_other _ _ _
theorem answer_port_of_ne (t : Taken) (r : Result) (pl : List Byte) (s : State) {q : Port} (h : q ≠ t.port) :
    (answer t r pl s).port q = s.port q := writeResponse_port_of_ne _ _ h

@[simp] theorem answerHeld_inReset (s : State) (h : HeldRequest) (r : Result) (pl : List Byte) : (s.answerHeld h r pl).inReset = s.inReset := writeResponse_inReset _ _ _
@[simp] theorem answerHeld_config (s : State) (h : HeldRequest) (r : Result) (pl : List Byte) : (s.answerHeld h r pl).config = s.config := writeResponse_config _ _ _
@[simp] theorem answerHeld_ctl (s : State) (h : HeldRequest) (r : Result) (pl : List Byte) : (s.answerHeld h r pl).ctl = s.ctl := writeResponse_ctl _ _ _
@[simp] theorem answerHeld_planner (s : State) (h : HeldRequest) (r : Result) (pl : List Byte) : (s.answerHeld h r pl).planner = s.planner := writeResponse_planner _ _ _
@[simp] theorem answerHeld_timer (s : State) (h : HeldRequest) (r : Result) (pl : List Byte) : (s.answerHeld h r pl).timer = s.timer := writeResponse_timer _ _ _
@[simp] theorem answerHeld_engine (s : State) (h : HeldRequest) (r : Result) (pl : List Byte) : (s.answerHeld h r pl).engine = s.engine := writeResponse_engine _ _ _
@[simp] theorem answerHeld_supply (s : State) (h : HeldRequest) (r : Result) (pl : List Byte) : (s.answerHeld h r pl).supply = s.supply := writeResponse_supply _ _ _
@[simp] theorem answerHeld_addressB (s : State) (h : HeldRequest) (r : Result) (pl : List Byte) : (s.answerHeld h r pl).addressB = s.addressB := writeResponse_addressB _ _ _
@[simp] theorem answerHeld_preferred (s : State) (h : HeldRequest) (r : Result) (pl : List Byte) : (s.answerHeld h r pl).preferred = s.preferred := writeResponse_preferred _ _ _
@[simp] theorem answerHeld_events (s : State) (h : HeldRequest) (r : Result) (pl : List Byte) : (s.answerHeld h r pl).events = s.events := writeResponse_events _ _ _
@[simp] theorem answerHeld_pending (s : State) (h : HeldRequest) (r : Result) (pl : List Byte) : (s.answerHeld h r pl).pending = s.pending := writeResponse_pending _ _ _
@[simp] theorem answerHeld_port_same (s : State) (h : HeldRequest) (r : Result) (pl : List Byte) :
    (s.answerHeld h r pl).port h.port = { s.port h.port with
      state := .ready, request := none, response := some ⟨BitVec.ofNat 8 h.client.val, h.code, r, pl⟩ } :=
  writeResponse_port_same _ _ _
@[simp] theorem answerHeld_port_other (s : State) (h : HeldRequest) (r : Result) (pl : List Byte) :
    (s.answerHeld h r pl).port (otherPort h.port) = s.port (otherPort h.port) := writeResponse_port_other _ _ _
theorem answerHeld_port_of_ne (s : State) (h : HeldRequest) (r : Result) (pl : List Byte) {q : Port} (hq : q ≠ h.port) :
    (s.answerHeld h r pl).port q = s.port q := writeResponse_port_of_ne _ _ hq

/-! ## refreshAlerts and settle -/

@[simp] theorem refreshAlerts_inReset (s : State) : s.refreshAlerts.inReset = s.inReset := rfl
@[simp] theorem refreshAlerts_config (s : State) : s.refreshAlerts.config = s.config := rfl
@[simp] theorem refreshAlerts_planner (s : State) : s.refreshAlerts.planner = s.planner := rfl
@[simp] theorem refreshAlerts_timer (s : State) : s.refreshAlerts.timer = s.timer := rfl
@[simp] theorem refreshAlerts_engine (s : State) : s.refreshAlerts.engine = s.engine := rfl
@[simp] theorem refreshAlerts_supply (s : State) : s.refreshAlerts.supply = s.supply := rfl
@[simp] theorem refreshAlerts_addressB (s : State) : s.refreshAlerts.addressB = s.addressB := rfl
@[simp] theorem refreshAlerts_preferred (s : State) : s.refreshAlerts.preferred = s.preferred := rfl
@[simp] theorem refreshAlerts_events (s : State) : s.refreshAlerts.events = s.events := rfl
@[simp] theorem refreshAlerts_pending (s : State) : s.refreshAlerts.pending = s.pending := rfl
@[simp] theorem refreshAlerts_ctl (s : State) :
    s.refreshAlerts.ctl = { s.ctl with summaryA := s.ctl.noticePending .a, summaryB := s.ctl.noticePending .b } := rfl
@[simp] theorem refreshAlerts_port (s : State) (p : Port) :
    s.refreshAlerts.port p = { s.port p with alertLow := s.ctl.noticePending p } := by cases p <;> rfl

@[simp] theorem settle_inReset (s : State) (b : Bool) : (s.settle b).inReset = s.inReset := rfl
@[simp] theorem settle_config (s : State) (b : Bool) : (s.settle b).config = s.config := rfl
@[simp] theorem settle_planner (s : State) (b : Bool) : (s.settle b).planner = s.planner := rfl
@[simp] theorem settle_timer (s : State) (b : Bool) : (s.settle b).timer = s.timer := rfl
@[simp] theorem settle_engine (s : State) (b : Bool) : (s.settle b).engine = s.engine := rfl
@[simp] theorem settle_supply (s : State) (b : Bool) : (s.settle b).supply = s.supply := rfl
@[simp] theorem settle_addressB (s : State) (b : Bool) : (s.settle b).addressB = s.addressB := rfl
@[simp] theorem settle_preferred (s : State) (b : Bool) : (s.settle b).preferred = s.preferred := rfl
@[simp] theorem settle_events (s : State) (b : Bool) : (s.settle b).events = s.events := rfl
@[simp] theorem settle_pending (s : State) (b : Bool) : (s.settle b).pending = s.pending := rfl
@[simp] theorem settle_ctl (s : State) (b : Bool) :
    (s.settle b).ctl = { s.ctl.passIf s.config.profiles b with
      summaryA := (s.ctl.passIf s.config.profiles b).noticePending .a
      summaryB := (s.ctl.passIf s.config.profiles b).noticePending .b } := rfl
@[simp] theorem settle_port (s : State) (b : Bool) (p : Port) :
    (s.settle b).port p = { s.port p with alertLow := (s.ctl.passIf s.config.profiles b).noticePending p } := by
  cases p <;> rfl

/-! ## The repack's updates -/

@[simp] theorem dropPlan_inReset (s : State) : s.dropPlan.inReset = s.inReset := rfl
@[simp] theorem dropPlan_config (s : State) : s.dropPlan.config = s.config := rfl
@[simp] theorem dropPlan_ctl (s : State) : s.dropPlan.ctl = s.ctl := rfl
@[simp] theorem dropPlan_timer (s : State) : s.dropPlan.timer = s.timer := rfl
@[simp] theorem dropPlan_engine (s : State) : s.dropPlan.engine = s.engine := rfl
@[simp] theorem dropPlan_supply (s : State) : s.dropPlan.supply = s.supply := rfl
@[simp] theorem dropPlan_portA (s : State) : s.dropPlan.portA = s.portA := rfl
@[simp] theorem dropPlan_portB (s : State) : s.dropPlan.portB = s.portB := rfl
@[simp] theorem dropPlan_addressB (s : State) : s.dropPlan.addressB = s.addressB := rfl
@[simp] theorem dropPlan_preferred (s : State) : s.dropPlan.preferred = s.preferred := rfl
@[simp] theorem dropPlan_events (s : State) : s.dropPlan.events = s.events := rfl
@[simp] theorem dropPlan_pending (s : State) : s.dropPlan.pending = s.pending := rfl
@[simp] theorem dropPlan_planner (s : State) : s.dropPlan.planner = { s.planner with plan := none } := rfl
@[simp] theorem dropPlan_port (s : State) (p : Port) : s.dropPlan.port p = s.port p := by cases p <;> rfl

@[simp] theorem endRepack_inReset (s : State) : s.endRepack.inReset = s.inReset := rfl
@[simp] theorem endRepack_config (s : State) : s.endRepack.config = s.config := rfl
@[simp] theorem endRepack_planner (s : State) : s.endRepack.planner = s.planner := rfl
@[simp] theorem endRepack_timer (s : State) : s.endRepack.timer = s.timer := rfl
@[simp] theorem endRepack_engine (s : State) : s.endRepack.engine = s.engine := rfl
@[simp] theorem endRepack_supply (s : State) : s.endRepack.supply = s.supply := rfl
@[simp] theorem endRepack_portA (s : State) : s.endRepack.portA = s.portA := rfl
@[simp] theorem endRepack_portB (s : State) : s.endRepack.portB = s.portB := rfl
@[simp] theorem endRepack_addressB (s : State) : s.endRepack.addressB = s.addressB := rfl
@[simp] theorem endRepack_preferred (s : State) : s.endRepack.preferred = s.preferred := rfl
@[simp] theorem endRepack_events (s : State) : s.endRepack.events = s.events := rfl
@[simp] theorem endRepack_pending (s : State) : s.endRepack.pending = s.pending := rfl
@[simp] theorem endRepack_ctl (s : State) : s.endRepack.ctl = { s.ctl with repack := .idle, held := none } := rfl
@[simp] theorem endRepack_port (s : State) (p : Port) : s.endRepack.port p = s.port p := by cases p <;> rfl

@[simp] theorem startRepack_inReset (s : State) (h : HeldRequest) (input : List PlanEntry) : (s.startRepack h input).inReset = s.inReset := rfl
@[simp] theorem startRepack_config (s : State) (h : HeldRequest) (input : List PlanEntry) : (s.startRepack h input).config = s.config := rfl
@[simp] theorem startRepack_timer (s : State) (h : HeldRequest) (input : List PlanEntry) : (s.startRepack h input).timer = s.timer := rfl
@[simp] theorem startRepack_engine (s : State) (h : HeldRequest) (input : List PlanEntry) : (s.startRepack h input).engine = s.engine := rfl
@[simp] theorem startRepack_supply (s : State) (h : HeldRequest) (input : List PlanEntry) : (s.startRepack h input).supply = s.supply := rfl
@[simp] theorem startRepack_portA (s : State) (h : HeldRequest) (input : List PlanEntry) : (s.startRepack h input).portA = s.portA := rfl
@[simp] theorem startRepack_portB (s : State) (h : HeldRequest) (input : List PlanEntry) : (s.startRepack h input).portB = s.portB := rfl
@[simp] theorem startRepack_addressB (s : State) (h : HeldRequest) (input : List PlanEntry) : (s.startRepack h input).addressB = s.addressB := rfl
@[simp] theorem startRepack_preferred (s : State) (h : HeldRequest) (input : List PlanEntry) : (s.startRepack h input).preferred = s.preferred := rfl
@[simp] theorem startRepack_pending (s : State) (h : HeldRequest) (input : List PlanEntry) : (s.startRepack h input).pending = s.pending := rfl
@[simp] theorem startRepack_ctl (s : State) (h : HeldRequest) (input : List PlanEntry) :
    (s.startRepack h input).ctl =
      { s.ctl with planSerial := s.ctl.planSerial + 1, repack := .planning, held := some h } := rfl
@[simp] theorem startRepack_port (s : State) (h : HeldRequest) (input : List PlanEntry) (p : Port) :
    (s.startRepack h input).port p = s.port p := by cases p <;> rfl

@[simp] theorem abandon_inReset (s : State) (r : Result) : (s.abandon r).inReset = s.inReset := by
  unfold State.abandon; split <;> (try split) <;> simp
@[simp] theorem abandon_config (s : State) (r : Result) : (s.abandon r).config = s.config := by
  unfold State.abandon; split <;> (try split) <;> simp
@[simp] theorem abandon_timer (s : State) (r : Result) : (s.abandon r).timer = s.timer := by
  unfold State.abandon; split <;> (try split) <;> simp
@[simp] theorem abandon_engine (s : State) (r : Result) : (s.abandon r).engine = s.engine := by
  unfold State.abandon; split <;> (try split) <;> simp
@[simp] theorem abandon_supply (s : State) (r : Result) : (s.abandon r).supply = s.supply := by
  unfold State.abandon; split <;> (try split) <;> simp
@[simp] theorem abandon_addressB (s : State) (r : Result) : (s.abandon r).addressB = s.addressB := by
  unfold State.abandon; split <;> (try split) <;> simp
@[simp] theorem abandon_preferred (s : State) (r : Result) : (s.abandon r).preferred = s.preferred := by
  unfold State.abandon; split <;> (try split) <;> simp
@[simp] theorem abandon_events (s : State) (r : Result) : (s.abandon r).events = s.events := by
  unfold State.abandon; split <;> (try split) <;> simp
@[simp] theorem abandon_pending (s : State) (r : Result) : (s.abandon r).pending = s.pending := by
  unfold State.abandon; split <;> (try split) <;> simp
theorem abandon_of_idle {s : State} (h : s.ctl.inFlight = false) (r : Result) : s.abandon r = s := by
  simp [State.abandon, h]
theorem abandon_of_held {s : State} {held : HeldRequest} (h : s.ctl.inFlight = true) (hh : s.ctl.held = some held)
    (r : Result) : s.abandon r = (s.endRepack.dropPlan).answerHeld held r [] := by
  simp [State.abandon, h, hh]
/-- Abandoning changes the controller's repack and nothing else of it. -/
theorem abandon_ctl (s : State) (r : Result) :
    (s.abandon r).ctl = if s.ctl.inFlight then { s.ctl with repack := .idle, held := none } else s.ctl := by
  unfold State.abandon; split
  · split <;> simp
  · rfl
@[simp] theorem abandon_inFlight (s : State) (r : Result) : (s.abandon r).ctl.inFlight = false := by
  rw [abandon_ctl]; split
  · rfl
  · rename_i h; simpa using h
theorem abandon_grantAt (s : State) (r : Result) (i : SlotIx) : (s.abandon r).ctl.grantAt i = s.ctl.grantAt i := by
  rw [abandon_ctl]; split <;> rfl
/-- A port is written by an abandonment only when it is the held request's. -/
theorem abandon_port_of_ne (s : State) (r : Result) (q : Port) (h : ∀ held, s.ctl.held = some held → q ≠ held.port) :
    (s.abandon r).port q = s.port q := by
  unfold State.abandon; split
  · split
    · rename_i held hh
      rw [answerHeld_port_of_ne _ _ _ _ (h held hh)]; simp
    · simp
  · rfl

/-! ## The frame boundary -/

@[simp] theorem reached_of_not_due {t : FrameTimer} (h : t.countDue = false) : t.reached = t.frameCount := by
  simp [FrameTimer.reached, h]
@[simp] theorem reached_of_due {t : FrameTimer} (h : t.countDue = true) : t.reached = t.frameCount + 1 := by
  simp [FrameTimer.reached, h]
theorem reached_val (t : FrameTimer) : t.reached.val = (t.frameCount.val + if t.countDue then 1 else 0) % 65536 := by
  unfold FrameTimer.reached
  split
  · simp [Fin.val_add]
  · simp [Nat.mod_eq_of_lt t.frameCount.isLt]
@[simp] theorem raiseFrameStart_inReset (s : State) (n : Fin 65536) : (s.raiseFrameStart n).inReset = s.inReset := rfl
@[simp] theorem raiseFrameStart_config (s : State) (n : Fin 65536) : (s.raiseFrameStart n).config = s.config := rfl
@[simp] theorem raiseFrameStart_ctl (s : State) (n : Fin 65536) : (s.raiseFrameStart n).ctl = s.ctl := rfl
@[simp] theorem raiseFrameStart_planner (s : State) (n : Fin 65536) : (s.raiseFrameStart n).planner = s.planner := rfl
@[simp] theorem raiseFrameStart_timer (s : State) (n : Fin 65536) : (s.raiseFrameStart n).timer = s.timer := rfl
@[simp] theorem raiseFrameStart_engine (s : State) (n : Fin 65536) : (s.raiseFrameStart n).engine = s.engine := rfl
@[simp] theorem raiseFrameStart_supply (s : State) (n : Fin 65536) : (s.raiseFrameStart n).supply = s.supply := rfl
@[simp] theorem raiseFrameStart_portA (s : State) (n : Fin 65536) : (s.raiseFrameStart n).portA = s.portA := rfl
@[simp] theorem raiseFrameStart_portB (s : State) (n : Fin 65536) : (s.raiseFrameStart n).portB = s.portB := rfl
@[simp] theorem raiseFrameStart_addressB (s : State) (n : Fin 65536) : (s.raiseFrameStart n).addressB = s.addressB := rfl
@[simp] theorem raiseFrameStart_preferred (s : State) (n : Fin 65536) : (s.raiseFrameStart n).preferred = s.preferred := rfl
@[simp] theorem raiseFrameStart_pending (s : State) (n : Fin 65536) : (s.raiseFrameStart n).pending = s.pending := rfl
/-- A taker for which a frame start waits takes that one. -/
@[simp] theorem meetFrameStart_waiting (s : State) (n : Nat) : s.meetFrameStart (n + 1) = s := by simp [State.meetFrameStart]
/-- A taker for which none waits meets the boundary at step 2047, and nothing elsewhere. -/
theorem meetFrameStart_boundary {s : State} (h : s.timer.step = 2047) (hr : s.inReset = false) :
    s.meetFrameStart 0 = s.frameBoundaryCountDue := by simp [State.meetFrameStart, h, hr]
theorem meetFrameStart_elsewhere {s : State} (h : s.inReset = true ∨ s.timer.step ≠ 2047) (n : Nat) : s.meetFrameStart n = s := by
  unfold State.meetFrameStart
  rcases h with h | h <;> simp [h]
@[simp] theorem meetFrameStart_inReset (s : State) (n : Nat) : (s.meetFrameStart n).inReset = s.inReset := by
  unfold State.meetFrameStart; split <;> rfl
@[simp] theorem meetFrameStart_config (s : State) (n : Nat) : (s.meetFrameStart n).config = s.config := by
  unfold State.meetFrameStart; split <;> rfl
@[simp] theorem meetFrameStart_ctl (s : State) (n : Nat) : (s.meetFrameStart n).ctl = s.ctl := by
  unfold State.meetFrameStart; split <;> rfl
@[simp] theorem meetFrameStart_planner (s : State) (n : Nat) : (s.meetFrameStart n).planner = s.planner := by
  unfold State.meetFrameStart; split <;> rfl
@[simp] theorem meetFrameStart_engine (s : State) (n : Nat) : (s.meetFrameStart n).engine = s.engine := by
  unfold State.meetFrameStart; split <;> rfl
@[simp] theorem meetFrameStart_supply (s : State) (n : Nat) : (s.meetFrameStart n).supply = s.supply := by
  unfold State.meetFrameStart; split <;> rfl
@[simp] theorem meetFrameStart_portA (s : State) (n : Nat) : (s.meetFrameStart n).portA = s.portA := by
  unfold State.meetFrameStart; split <;> rfl
@[simp] theorem meetFrameStart_portB (s : State) (n : Nat) : (s.meetFrameStart n).portB = s.portB := by
  unfold State.meetFrameStart; split <;> rfl
@[simp] theorem meetFrameStart_addressB (s : State) (n : Nat) : (s.meetFrameStart n).addressB = s.addressB := by
  unfold State.meetFrameStart; split <;> rfl
@[simp] theorem meetFrameStart_preferred (s : State) (n : Nat) : (s.meetFrameStart n).preferred = s.preferred := by
  unfold State.meetFrameStart; split <;> rfl
@[simp] theorem meetFrameStart_pending (s : State) (n : Nat) : (s.meetFrameStart n).pending = s.pending := by
  unfold State.meetFrameStart; split <;> rfl

end Sys2Proof.Laws
end

