-- ==== Sys2Proof/Laws/Controller.lean ====
section
/-! SUPPORT. What each operation on the grant controller's records changes, field by field: slots, lists, map, moves of a
grant. -/

namespace Sys2Proof.Laws

open Sys2Proof Sys2Proof.Machine Sys2Proof.Safety

/-! ## Slots -/

theorem grantAt_def (c : Controller) (i : SlotIx) : c.grantAt i = c.table[i].grant := rfl
theorem handleAt_def (c : Controller) (i : SlotIx) : c.handleAt i = handleValue i c.table[i].generation := rfl
@[simp] theorem table_set_same (v : Vector Slot 32) (i : SlotIx) (x : Slot) : (v.set i x)[i] = x := by simp
theorem table_set_other (v : Vector Slot 32) {i j : SlotIx} (x : Slot) (h : j ≠ i) : (v.set i x)[j] = v[j] := by
  have : (i : Nat) ≠ j := fun e => h (Fin.ext e.symm)
  simpa using Vector.getElem_set_ne i.isLt j.isLt this
@[simp] theorem putGrant_table (c : Controller) (i : SlotIx) (g : Grant) :
    (c.putGrant i g).table = c.table.set i ⟨c.table[i].generation, some g⟩ := rfl
@[simp] theorem emptySlot_table (c : Controller) (i : SlotIx) :
    (c.emptySlot i).table = c.table.set i ⟨c.table[i].generation + 1, none⟩ := rfl
@[simp] theorem putGrant_grantAt (c : Controller) (i : SlotIx) (g : Grant) : (c.putGrant i g).grantAt i = some g := by
  simp [grantAt_def]
theorem putGrant_grantAt_of_ne (c : Controller) {i j : SlotIx} (g : Grant) (h : j ≠ i) :
    (c.putGrant i g).grantAt j = c.grantAt j := by simp only [grantAt_def, putGrant_table, table_set_other _ _ h]
theorem putGrant_slot_of_ne (c : Controller) {i j : SlotIx} (g : Grant) (h : j ≠ i) :
    (c.putGrant i g).table[j] = c.table[j] := by simp only [putGrant_table, table_set_other _ _ h]
@[simp] theorem putGrant_generation (c : Controller) (i j : SlotIx) (g : Grant) :
    (c.putGrant i g).table[j].generation = c.table[j].generation := by
  by_cases h : j = i
  · subst h; simp
  · rw [putGrant_slot_of_ne c g h]
@[simp] theorem emptySlot_grantAt (c : Controller) (i : SlotIx) : (c.emptySlot i).grantAt i = none := by
  simp [grantAt_def]
theorem emptySlot_grantAt_of_ne (c : Controller) {i j : SlotIx} (h : j ≠ i) :
    (c.emptySlot i).grantAt j = c.grantAt j := by simp only [grantAt_def, emptySlot_table, table_set_other _ _ h]
theorem emptySlot_slot_of_ne (c : Controller) {i j : SlotIx} (h : j ≠ i) :
    (c.emptySlot i).table[j] = c.table[j] := by simp only [emptySlot_table, table_set_other _ _ h]
/-- The grant a slot already holds may be written again. -/
theorem putGrant_self {c : Controller} {i : SlotIx} {g : Grant} (h : c.grantAt i = some g) : c.putGrant i g = c := by
  have hx : (⟨c.table[i].generation, some g⟩ : Slot) = c.table[i] := by rw [← h]; rfl
  have ht : c.table.set i ⟨c.table[i].generation, some g⟩ = c.table := by
    rw [hx]; simp
  show { c with table := c.table.set i ⟨c.table[i].generation, some g⟩ } = c
  rw [ht]

@[simp] theorem putGrant_waiting (c : Controller) (i : SlotIx) (g : Grant) : (c.putGrant i g).waiting = c.waiting := by simp only [Controller.putGrant]
@[simp] theorem putGrant_admission (c : Controller) (i : SlotIx) (g : Grant) : (c.putGrant i g).admission = c.admission := by simp only [Controller.putGrant]
@[simp] theorem putGrant_loadMap (c : Controller) (i : SlotIx) (g : Grant) : (c.putGrant i g).loadMap = c.loadMap := by simp only [Controller.putGrant]
@[simp] theorem putGrant_totalCharge (c : Controller) (i : SlotIx) (g : Grant) : (c.putGrant i g).totalCharge = c.totalCharge := by simp only [Controller.putGrant]
@[simp] theorem putGrant_tierInForce (c : Controller) (i : SlotIx) (g : Grant) : (c.putGrant i g).tierInForce = c.tierInForce := by simp only [Controller.putGrant]
@[simp] theorem putGrant_peakInForce (c : Controller) (i : SlotIx) (g : Grant) : (c.putGrant i g).peakInForce = c.peakInForce := by simp only [Controller.putGrant]
@[simp] theorem putGrant_chargeInForce (c : Controller) (i : SlotIx) (g : Grant) : (c.putGrant i g).chargeInForce = c.chargeInForce := by simp only [Controller.putGrant]
@[simp] theorem putGrant_repack (c : Controller) (i : SlotIx) (g : Grant) : (c.putGrant i g).repack = c.repack := by simp only [Controller.putGrant]
@[simp] theorem putGrant_held (c : Controller) (i : SlotIx) (g : Grant) : (c.putGrant i g).held = c.held := by simp only [Controller.putGrant]
@[simp] theorem putGrant_planSerial (c : Controller) (i : SlotIx) (g : Grant) : (c.putGrant i g).planSerial = c.planSerial := by simp only [Controller.putGrant]
@[simp] theorem putGrant_summaryA (c : Controller) (i : SlotIx) (g : Grant) : (c.putGrant i g).summaryA = c.summaryA := by simp only [Controller.putGrant]
@[simp] theorem putGrant_summaryB (c : Controller) (i : SlotIx) (g : Grant) : (c.putGrant i g).summaryB = c.summaryB := by simp only [Controller.putGrant]
@[simp] theorem emptySlot_waiting (c : Controller) (i : SlotIx) : (c.emptySlot i).waiting = c.waiting := by simp only [Controller.emptySlot]
@[simp] theorem emptySlot_admission (c : Controller) (i : SlotIx) : (c.emptySlot i).admission = c.admission := by simp only [Controller.emptySlot]
@[simp] theorem emptySlot_loadMap (c : Controller) (i : SlotIx) : (c.emptySlot i).loadMap = c.loadMap := by simp only [Controller.emptySlot]
@[simp] theorem emptySlot_totalCharge (c : Controller) (i : SlotIx) : (c.emptySlot i).totalCharge = c.totalCharge := by simp only [Controller.emptySlot]
@[simp] theorem emptySlot_tierInForce (c : Controller) (i : SlotIx) : (c.emptySlot i).tierInForce = c.tierInForce := by simp only [Controller.emptySlot]
@[simp] theorem emptySlot_peakInForce (c : Controller) (i : SlotIx) : (c.emptySlot i).peakInForce = c.peakInForce := by simp only [Controller.emptySlot]
@[simp] theorem emptySlot_chargeInForce (c : Controller) (i : SlotIx) : (c.emptySlot i).chargeInForce = c.chargeInForce := by simp only [Controller.emptySlot]
@[simp] theorem emptySlot_repack (c : Controller) (i : SlotIx) : (c.emptySlot i).repack = c.repack := by simp only [Controller.emptySlot]
@[simp] theorem emptySlot_held (c : Controller) (i : SlotIx) : (c.emptySlot i).held = c.held := by simp only [Controller.emptySlot]
@[simp] theorem emptySlot_planSerial (c : Controller) (i : SlotIx) : (c.emptySlot i).planSerial = c.planSerial := by simp only [Controller.emptySlot]
@[simp] theorem emptySlot_summaryA (c : Controller) (i : SlotIx) : (c.emptySlot i).summaryA = c.summaryA := by simp only [Controller.emptySlot]
@[simp] theorem emptySlot_summaryB (c : Controller) (i : SlotIx) : (c.emptySlot i).summaryB = c.summaryB := by simp only [Controller.emptySlot]

/-! ## A repack ended -/

@[simp] theorem withoutRepack_table (c : Controller) : (withoutRepack c).table = c.table := rfl
@[simp] theorem withoutRepack_waiting (c : Controller) : (withoutRepack c).waiting = c.waiting := rfl
@[simp] theorem withoutRepack_admission (c : Controller) : (withoutRepack c).admission = c.admission := rfl
@[simp] theorem withoutRepack_loadMap (c : Controller) : (withoutRepack c).loadMap = c.loadMap := rfl
@[simp] theorem withoutRepack_totalCharge (c : Controller) : (withoutRepack c).totalCharge = c.totalCharge := rfl
@[simp] theorem withoutRepack_tierInForce (c : Controller) : (withoutRepack c).tierInForce = c.tierInForce := rfl
@[simp] theorem withoutRepack_peakInForce (c : Controller) : (withoutRepack c).peakInForce = c.peakInForce := rfl
@[simp] theorem withoutRepack_chargeInForce (c : Controller) : (withoutRepack c).chargeInForce = c.chargeInForce := rfl
@[simp] theorem withoutRepack_planSerial (c : Controller) : (withoutRepack c).planSerial = c.planSerial := rfl
@[simp] theorem withoutRepack_summaryA (c : Controller) : (withoutRepack c).summaryA = c.summaryA := rfl
@[simp] theorem withoutRepack_summaryB (c : Controller) : (withoutRepack c).summaryB = c.summaryB := rfl
@[simp] theorem withoutRepack_repack (c : Controller) : (withoutRepack c).repack = .idle := rfl
@[simp] theorem withoutRepack_held (c : Controller) : (withoutRepack c).held = none := rfl
@[simp] theorem withoutRepack_inFlight (c : Controller) : (withoutRepack c).inFlight = false := rfl
@[simp] theorem withoutRepack_grantAt (c : Controller) (i : SlotIx) : (withoutRepack c).grantAt i = c.grantAt i := rfl
/-- The controller's part of an abandonment and of a repack's end is withoutRepack. -/
theorem endRepack_ctl_eq (s : State) : s.endRepack.ctl = withoutRepack s.ctl := rfl
theorem abandon_ctl_of_inFlight {s : State} (h : s.ctl.inFlight = true) (r : Result) :
    (s.abandon r).ctl = withoutRepack s.ctl := by rw [abandon_ctl, if_pos h]; rfl

/-! ## Runs in the map and the waiting list -/

@[simp] theorem enterRun_table (c : Controller) (I : Nat) (s : Segment) (f : Nat) : (c.enterRun I s f).table = c.table := by simp only [Controller.enterRun]
@[simp] theorem enterRun_waiting (c : Controller) (I : Nat) (s : Segment) (f : Nat) : (c.enterRun I s f).waiting = c.waiting := by simp only [Controller.enterRun]
@[simp] theorem enterRun_admission (c : Controller) (I : Nat) (s : Segment) (f : Nat) : (c.enterRun I s f).admission = c.admission := by simp only [Controller.enterRun]
@[simp] theorem enterRun_tierInForce (c : Controller) (I : Nat) (s : Segment) (f : Nat) : (c.enterRun I s f).tierInForce = c.tierInForce := by simp only [Controller.enterRun]
@[simp] theorem enterRun_peakInForce (c : Controller) (I : Nat) (s : Segment) (f : Nat) : (c.enterRun I s f).peakInForce = c.peakInForce := by simp only [Controller.enterRun]
@[simp] theorem enterRun_chargeInForce (c : Controller) (I : Nat) (s : Segment) (f : Nat) : (c.enterRun I s f).chargeInForce = c.chargeInForce := by simp only [Controller.enterRun]
@[simp] theorem enterRun_repack (c : Controller) (I : Nat) (s : Segment) (f : Nat) : (c.enterRun I s f).repack = c.repack := by simp only [Controller.enterRun]
@[simp] theorem enterRun_held (c : Controller) (I : Nat) (s : Segment) (f : Nat) : (c.enterRun I s f).held = c.held := by simp only [Controller.enterRun]
@[simp] theorem enterRun_planSerial (c : Controller) (I : Nat) (s : Segment) (f : Nat) : (c.enterRun I s f).planSerial = c.planSerial := by simp only [Controller.enterRun]
@[simp] theorem enterRun_summaryA (c : Controller) (I : Nat) (s : Segment) (f : Nat) : (c.enterRun I s f).summaryA = c.summaryA := by simp only [Controller.enterRun]
@[simp] theorem enterRun_summaryB (c : Controller) (I : Nat) (s : Segment) (f : Nat) : (c.enterRun I s f).summaryB = c.summaryB := by simp only [Controller.enterRun]
@[simp] theorem leaveRun_table (c : Controller) (I : Nat) (s : Segment) (f : Nat) : (c.leaveRun I s f).table = c.table := by simp only [Controller.leaveRun]
@[simp] theorem leaveRun_waiting (c : Controller) (I : Nat) (s : Segment) (f : Nat) : (c.leaveRun I s f).waiting = c.waiting := by simp only [Controller.leaveRun]
@[simp] theorem leaveRun_admission (c : Controller) (I : Nat) (s : Segment) (f : Nat) : (c.leaveRun I s f).admission = c.admission := by simp only [Controller.leaveRun]
@[simp] theorem leaveRun_tierInForce (c : Controller) (I : Nat) (s : Segment) (f : Nat) : (c.leaveRun I s f).tierInForce = c.tierInForce := by simp only [Controller.leaveRun]
@[simp] theorem leaveRun_peakInForce (c : Controller) (I : Nat) (s : Segment) (f : Nat) : (c.leaveRun I s f).peakInForce = c.peakInForce := by simp only [Controller.leaveRun]
@[simp] theorem leaveRun_chargeInForce (c : Controller) (I : Nat) (s : Segment) (f : Nat) : (c.leaveRun I s f).chargeInForce = c.chargeInForce := by simp only [Controller.leaveRun]
@[simp] theorem leaveRun_repack (c : Controller) (I : Nat) (s : Segment) (f : Nat) : (c.leaveRun I s f).repack = c.repack := by simp only [Controller.leaveRun]
@[simp] theorem leaveRun_held (c : Controller) (I : Nat) (s : Segment) (f : Nat) : (c.leaveRun I s f).held = c.held := by simp only [Controller.leaveRun]
@[simp] theorem leaveRun_planSerial (c : Controller) (I : Nat) (s : Segment) (f : Nat) : (c.leaveRun I s f).planSerial = c.planSerial := by simp only [Controller.leaveRun]
@[simp] theorem leaveRun_summaryA (c : Controller) (I : Nat) (s : Segment) (f : Nat) : (c.leaveRun I s f).summaryA = c.summaryA := by simp only [Controller.leaveRun]
@[simp] theorem leaveRun_summaryB (c : Controller) (I : Nat) (s : Segment) (f : Nat) : (c.leaveRun I s f).summaryB = c.summaryB := by simp only [Controller.leaveRun]
@[simp] theorem enterWaiting_table (c : Controller) (i : SlotIx) : (c.enterWaiting i).table = c.table := by simp only [Controller.enterWaiting]
@[simp] theorem enterWaiting_admission (c : Controller) (i : SlotIx) : (c.enterWaiting i).admission = c.admission := by simp only [Controller.enterWaiting]
@[simp] theorem enterWaiting_loadMap (c : Controller) (i : SlotIx) : (c.enterWaiting i).loadMap = c.loadMap := by simp only [Controller.enterWaiting]
@[simp] theorem enterWaiting_totalCharge (c : Controller) (i : SlotIx) : (c.enterWaiting i).totalCharge = c.totalCharge := by simp only [Controller.enterWaiting]
@[simp] theorem enterWaiting_tierInForce (c : Controller) (i : SlotIx) : (c.enterWaiting i).tierInForce = c.tierInForce := by simp only [Controller.enterWaiting]
@[simp] theorem enterWaiting_peakInForce (c : Controller) (i : SlotIx) : (c.enterWaiting i).peakInForce = c.peakInForce := by simp only [Controller.enterWaiting]
@[simp] theorem enterWaiting_chargeInForce (c : Controller) (i : SlotIx) : (c.enterWaiting i).chargeInForce = c.chargeInForce := by simp only [Controller.enterWaiting]
@[simp] theorem enterWaiting_repack (c : Controller) (i : SlotIx) : (c.enterWaiting i).repack = c.repack := by simp only [Controller.enterWaiting]
@[simp] theorem enterWaiting_held (c : Controller) (i : SlotIx) : (c.enterWaiting i).held = c.held := by simp only [Controller.enterWaiting]
@[simp] theorem enterWaiting_planSerial (c : Controller) (i : SlotIx) : (c.enterWaiting i).planSerial = c.planSerial := by simp only [Controller.enterWaiting]
@[simp] theorem enterWaiting_summaryA (c : Controller) (i : SlotIx) : (c.enterWaiting i).summaryA = c.summaryA := by simp only [Controller.enterWaiting]
@[simp] theorem enterWaiting_summaryB (c : Controller) (i : SlotIx) : (c.enterWaiting i).summaryB = c.summaryB := by simp only [Controller.enterWaiting]
@[simp] theorem loadTier_table (c : Controller) (tab : TierTable) (t : Tier) : (c.loadTier tab t).table = c.table := by simp only [Controller.loadTier]
@[simp] theorem loadTier_waiting (c : Controller) (tab : TierTable) (t : Tier) : (c.loadTier tab t).waiting = c.waiting := by simp only [Controller.loadTier]
@[simp] theorem loadTier_admission (c : Controller) (tab : TierTable) (t : Tier) : (c.loadTier tab t).admission = c.admission := by simp only [Controller.loadTier]
@[simp] theorem loadTier_loadMap (c : Controller) (tab : TierTable) (t : Tier) : (c.loadTier tab t).loadMap = c.loadMap := by simp only [Controller.loadTier]
@[simp] theorem loadTier_totalCharge (c : Controller) (tab : TierTable) (t : Tier) : (c.loadTier tab t).totalCharge = c.totalCharge := by simp only [Controller.loadTier]
@[simp] theorem loadTier_repack (c : Controller) (tab : TierTable) (t : Tier) : (c.loadTier tab t).repack = c.repack := by simp only [Controller.loadTier]
@[simp] theorem loadTier_held (c : Controller) (tab : TierTable) (t : Tier) : (c.loadTier tab t).held = c.held := by simp only [Controller.loadTier]
@[simp] theorem loadTier_planSerial (c : Controller) (tab : TierTable) (t : Tier) : (c.loadTier tab t).planSerial = c.planSerial := by simp only [Controller.loadTier]
@[simp] theorem loadTier_summaryA (c : Controller) (tab : TierTable) (t : Tier) : (c.loadTier tab t).summaryA = c.summaryA := by simp only [Controller.loadTier]
@[simp] theorem loadTier_summaryB (c : Controller) (tab : TierTable) (t : Tier) : (c.loadTier tab t).summaryB = c.summaryB := by simp only [Controller.loadTier]
@[simp] theorem enterRun_load (c : Controller) (I : Nat) (s : Segment) (f : Nat) (k : Segment) :
    (c.enterRun I s f).loadMap[k] = c.loadMap[k] + if covers s f k then I else 0 := by
  simp [Controller.enterRun, raiseRun]
@[simp] theorem leaveRun_load (c : Controller) (I : Nat) (s : Segment) (f : Nat) (k : Segment) :
    (c.leaveRun I s f).loadMap[k] = c.loadMap[k] - if covers s f k then I else 0 := by
  simp [Controller.leaveRun, lowerRun]
@[simp] theorem enterRun_totalCharge (c : Controller) (I : Nat) (s : Segment) (f : Nat) :
    (c.enterRun I s f).totalCharge = c.totalCharge + I * f := by simp only [Controller.enterRun]
@[simp] theorem leaveRun_totalCharge (c : Controller) (I : Nat) (s : Segment) (f : Nat) :
    (c.leaveRun I s f).totalCharge = c.totalCharge - I * f := by simp only [Controller.leaveRun]
@[simp] theorem enterWaiting_waiting (c : Controller) (i : SlotIx) :
    (c.enterWaiting i).waiting = insertByPriority c.priorityAt i (c.priorityAt i) c.waiting := by simp only [Controller.enterWaiting]
theorem grantAt_of_table {c d : Controller} (h : d.table = c.table) (i : SlotIx) : d.grantAt i = c.grantAt i := by
  simp only [grantAt_def, h]
theorem handleAt_of_table {c d : Controller} (h : d.table = c.table) (i : SlotIx) : d.handleAt i = c.handleAt i := by
  simp only [handleAt_def, h]
theorem lookup_of_table {c d : Controller} (h : d.table = c.table) (n : Nat) : d.lookup n = c.lookup n := by
  simp only [Controller.lookup, grantAt_of_table h, handleAt_of_table h]
theorem findSlot_of_table {c d : Controller} (h : d.table = c.table) (q : Grant → Bool) : d.findSlot q = c.findSlot q := by
  simp only [Controller.findSlot, grantAt_of_table h]
theorem holder_of_table {c d : Controller} (h : d.table = c.table) (ch : Channel) : d.holder ch = c.holder ch :=
  findSlot_of_table h _
theorem noticePending_of_table {c d : Controller} (h : d.table = c.table) (p : Port) :
    d.noticePending p = c.noticePending p := by
  simp only [Controller.noticePending, grantAt_of_table h]

/-! ## A grant leaves its room and its list: detach -/

theorem detach_free {c : Controller} {i : SlotIx} (h : c.grantAt i = none) (profiles : Vector Profile 16) :
    c.detach profiles i = c := by simp [Controller.detach, h]
theorem detach_active {c : Controller} {i : SlotIx} {g : Grant} {s : Segment} {r : Nat} (h : c.grantAt i = some g)
    (hs : g.state = .active s r) (profiles : Vector Profile 16) :
    c.detach profiles i =
      { c.leaveRun (currentOf profiles g.channel) s r with admission := c.admission.erase i } := by
  simp [Controller.detach, h, hs]
theorem detach_waits {c : Controller} {i : SlotIx} {g : Grant} (h : c.grantAt i = some g) (hw : g.waits = true)
    (profiles : Vector Profile 16) : c.detach profiles i = { c with waiting := c.waiting.erase i } := by
  unfold Grant.waits at hw
  cases hs : g.state <;> simp_all [Controller.detach]
theorem detach_closed {c : Controller} {i : SlotIx} {g : Grant} (h : c.grantAt i = some g) (hc : g.isClosed = true)
    (profiles : Vector Profile 16) : c.detach profiles i = c := by
  unfold Grant.isClosed at hc
  cases hs : g.state <;> simp_all [Controller.detach]

@[simp] theorem detach_table (c : Controller) (profiles : Vector Profile 16) (i : SlotIx) :
    (c.detach profiles i).table = c.table := by
  unfold Controller.detach; split
  · rfl
  · split <;> simp only [leaveRun_table]
@[simp] theorem detach_tierInForce (c : Controller) (profiles : Vector Profile 16) (i : SlotIx) :
    (c.detach profiles i).tierInForce = c.tierInForce := by
  unfold Controller.detach; split
  · rfl
  · split <;> simp only [leaveRun_tierInForce]
@[simp] theorem detach_peakInForce (c : Controller) (profiles : Vector Profile 16) (i : SlotIx) :
    (c.detach profiles i).peakInForce = c.peakInForce := by
  unfold Controller.detach; split
  · rfl
  · split <;> simp only [leaveRun_peakInForce]
@[simp] theorem detach_chargeInForce (c : Controller) (profiles : Vector Profile 16) (i : SlotIx) :
    (c.detach profiles i).chargeInForce = c.chargeInForce := by
  unfold Controller.detach; split
  · rfl
  · split <;> simp only [leaveRun_chargeInForce]
@[simp] theorem detach_repack (c : Controller) (profiles : Vector Profile 16) (i : SlotIx) :
    (c.detach profiles i).repack = c.repack := by
  unfold Controller.detach; split
  · rfl
  · split <;> simp only [leaveRun_repack]
@[simp] theorem detach_held (c : Controller) (profiles : Vector Profile 16) (i : SlotIx) :
    (c.detach profiles i).held = c.held := by
  unfold Controller.detach; split
  · rfl
  · split <;> simp only [leaveRun_held]
@[simp] theorem detach_planSerial (c : Controller) (profiles : Vector Profile 16) (i : SlotIx) :
    (c.detach profiles i).planSerial = c.planSerial := by
  unfold Controller.detach; split
  · rfl
  · split <;> simp only [leaveRun_planSerial]
@[simp] theorem detach_summaryA (c : Controller) (profiles : Vector Profile 16) (i : SlotIx) :
    (c.detach profiles i).summaryA = c.summaryA := by
  unfold Controller.detach; split
  · rfl
  · split <;> simp only [leaveRun_summaryA]
@[simp] theorem detach_summaryB (c : Controller) (profiles : Vector Profile 16) (i : SlotIx) :
    (c.detach profiles i).summaryB = c.summaryB := by
  unfold Controller.detach; split
  · rfl
  · split <;> simp only [leaveRun_summaryB]
@[simp] theorem detach_grantAt (c : Controller) (profiles : Vector Profile 16) (i j : SlotIx) :
    (c.detach profiles i).grantAt j = c.grantAt j := grantAt_of_table (detach_table _ _ _) j
@[simp] theorem detach_generation (c : Controller) (profiles : Vector Profile 16) (i j : SlotIx) :
    (c.detach profiles i).table[j].generation = c.table[j].generation := by simp

/-! ## The moves of a grant -/

@[simp] theorem free_tierInForce (c : Controller) (profiles : Vector Profile 16) (i : SlotIx) :
    (c.free profiles i).tierInForce = c.tierInForce := by simp [Controller.free]
@[simp] theorem free_peakInForce (c : Controller) (profiles : Vector Profile 16) (i : SlotIx) :
    (c.free profiles i).peakInForce = c.peakInForce := by simp [Controller.free]
@[simp] theorem free_chargeInForce (c : Controller) (profiles : Vector Profile 16) (i : SlotIx) :
    (c.free profiles i).chargeInForce = c.chargeInForce := by simp [Controller.free]
@[simp] theorem free_repack (c : Controller) (profiles : Vector Profile 16) (i : SlotIx) :
    (c.free profiles i).repack = c.repack := by simp [Controller.free]
@[simp] theorem free_held (c : Controller) (profiles : Vector Profile 16) (i : SlotIx) :
    (c.free profiles i).held = c.held := by simp [Controller.free]
@[simp] theorem free_planSerial (c : Controller) (profiles : Vector Profile 16) (i : SlotIx) :
    (c.free profiles i).planSerial = c.planSerial := by simp [Controller.free]
@[simp] theorem free_summaryA (c : Controller) (profiles : Vector Profile 16) (i : SlotIx) :
    (c.free profiles i).summaryA = c.summaryA := by simp [Controller.free]
@[simp] theorem free_summaryB (c : Controller) (profiles : Vector Profile 16) (i : SlotIx) :
    (c.free profiles i).summaryB = c.summaryB := by simp [Controller.free]
@[simp] theorem retire_tierInForce (c : Controller) (profiles : Vector Profile 16) (i : SlotIx) (r : CloseReason) :
    (c.retire profiles i r).tierInForce = c.tierInForce := by unfold Controller.retire; split <;> simp
@[simp] theorem retire_peakInForce (c : Controller) (profiles : Vector Profile 16) (i : SlotIx) (r : CloseReason) :
    (c.retire profiles i r).peakInForce = c.peakInForce := by unfold Controller.retire; split <;> simp
@[simp] theorem retire_chargeInForce (c : Controller) (profiles : Vector Profile 16) (i : SlotIx) (r : CloseReason) :
    (c.retire profiles i r).chargeInForce = c.chargeInForce := by unfold Controller.retire; split <;> simp
@[simp] theorem retire_repack (c : Controller) (profiles : Vector Profile 16) (i : SlotIx) (r : CloseReason) :
    (c.retire profiles i r).repack = c.repack := by unfold Controller.retire; split <;> simp
@[simp] theorem retire_held (c : Controller) (profiles : Vector Profile 16) (i : SlotIx) (r : CloseReason) :
    (c.retire profiles i r).held = c.held := by unfold Controller.retire; split <;> simp
@[simp] theorem retire_planSerial (c : Controller) (profiles : Vector Profile 16) (i : SlotIx) (r : CloseReason) :
    (c.retire profiles i r).planSerial = c.planSerial := by unfold Controller.retire; split <;> simp
@[simp] theorem retire_summaryA (c : Controller) (profiles : Vector Profile 16) (i : SlotIx) (r : CloseReason) :
    (c.retire profiles i r).summaryA = c.summaryA := by unfold Controller.retire; split <;> simp
@[simp] theorem retire_summaryB (c : Controller) (profiles : Vector Profile 16) (i : SlotIx) (r : CloseReason) :
    (c.retire profiles i r).summaryB = c.summaryB := by unfold Controller.retire; split <;> simp
@[simp] theorem shed_tierInForce (c : Controller) (profiles : Vector Profile 16) (i : SlotIx) :
    (c.shed profiles i).tierInForce = c.tierInForce := by unfold Controller.shed; split <;> simp
@[simp] theorem shed_peakInForce (c : Controller) (profiles : Vector Profile 16) (i : SlotIx) :
    (c.shed profiles i).peakInForce = c.peakInForce := by unfold Controller.shed; split <;> simp
@[simp] theorem shed_chargeInForce (c : Controller) (profiles : Vector Profile 16) (i : SlotIx) :
    (c.shed profiles i).chargeInForce = c.chargeInForce := by unfold Controller.shed; split <;> simp
@[simp] theorem shed_repack (c : Controller) (profiles : Vector Profile 16) (i : SlotIx) :
    (c.shed profiles i).repack = c.repack := by unfold Controller.shed; split <;> simp
@[simp] theorem shed_held (c : Controller) (profiles : Vector Profile 16) (i : SlotIx) :
    (c.shed profiles i).held = c.held := by unfold Controller.shed; split <;> simp
@[simp] theorem shed_planSerial (c : Controller) (profiles : Vector Profile 16) (i : SlotIx) :
    (c.shed profiles i).planSerial = c.planSerial := by unfold Controller.shed; split <;> simp
@[simp] theorem shed_summaryA (c : Controller) (profiles : Vector Profile 16) (i : SlotIx) :
    (c.shed profiles i).summaryA = c.summaryA := by unfold Controller.shed; split <;> simp
@[simp] theorem shed_summaryB (c : Controller) (profiles : Vector Profile 16) (i : SlotIx) :
    (c.shed profiles i).summaryB = c.summaryB := by unfold Controller.shed; split <;> simp
@[simp] theorem preempt_tierInForce (c : Controller) (profiles : Vector Profile 16) (i : SlotIx) :
    (c.preempt profiles i).tierInForce = c.tierInForce := by unfold Controller.preempt; split <;> simp
@[simp] theorem preempt_peakInForce (c : Controller) (profiles : Vector Profile 16) (i : SlotIx) :
    (c.preempt profiles i).peakInForce = c.peakInForce := by unfold Controller.preempt; split <;> simp
@[simp] theorem preempt_chargeInForce (c : Controller) (profiles : Vector Profile 16) (i : SlotIx) :
    (c.preempt profiles i).chargeInForce = c.chargeInForce := by unfold Controller.preempt; split <;> simp
@[simp] theorem preempt_repack (c : Controller) (profiles : Vector Profile 16) (i : SlotIx) :
    (c.preempt profiles i).repack = c.repack := by unfold Controller.preempt; split <;> simp
@[simp] theorem preempt_held (c : Controller) (profiles : Vector Profile 16) (i : SlotIx) :
    (c.preempt profiles i).held = c.held := by unfold Controller.preempt; split <;> simp
@[simp] theorem preempt_planSerial (c : Controller) (profiles : Vector Profile 16) (i : SlotIx) :
    (c.preempt profiles i).planSerial = c.planSerial := by unfold Controller.preempt; split <;> simp
@[simp] theorem preempt_summaryA (c : Controller) (profiles : Vector Profile 16) (i : SlotIx) :
    (c.preempt profiles i).summaryA = c.summaryA := by unfold Controller.preempt; split <;> simp
@[simp] theorem preempt_summaryB (c : Controller) (profiles : Vector Profile 16) (i : SlotIx) :
    (c.preempt profiles i).summaryB = c.summaryB := by unfold Controller.preempt; split <;> simp
@[simp] theorem activate_tierInForce (c : Controller) (profiles : Vector Profile 16) (i : SlotIx) (g : Grant) (s : Segment) (f : Nat) :
    (c.activate profiles i g s f).tierInForce = c.tierInForce := by simp [Controller.activate]
@[simp] theorem activate_peakInForce (c : Controller) (profiles : Vector Profile 16) (i : SlotIx) (g : Grant) (s : Segment) (f : Nat) :
    (c.activate profiles i g s f).peakInForce = c.peakInForce := by simp [Controller.activate]
@[simp] theorem activate_chargeInForce (c : Controller) (profiles : Vector Profile 16) (i : SlotIx) (g : Grant) (s : Segment) (f : Nat) :
    (c.activate profiles i g s f).chargeInForce = c.chargeInForce := by simp [Controller.activate]
@[simp] theorem activate_repack (c : Controller) (profiles : Vector Profile 16) (i : SlotIx) (g : Grant) (s : Segment) (f : Nat) :
    (c.activate profiles i g s f).repack = c.repack := by simp [Controller.activate]
@[simp] theorem activate_held (c : Controller) (profiles : Vector Profile 16) (i : SlotIx) (g : Grant) (s : Segment) (f : Nat) :
    (c.activate profiles i g s f).held = c.held := by simp [Controller.activate]
@[simp] theorem activate_planSerial (c : Controller) (profiles : Vector Profile 16) (i : SlotIx) (g : Grant) (s : Segment) (f : Nat) :
    (c.activate profiles i g s f).planSerial = c.planSerial := by simp [Controller.activate]
@[simp] theorem activate_summaryA (c : Controller) (profiles : Vector Profile 16) (i : SlotIx) (g : Grant) (s : Segment) (f : Nat) :
    (c.activate profiles i g s f).summaryA = c.summaryA := by simp [Controller.activate]
@[simp] theorem activate_summaryB (c : Controller) (profiles : Vector Profile 16) (i : SlotIx) (g : Grant) (s : Segment) (f : Nat) :
    (c.activate profiles i g s f).summaryB = c.summaryB := by simp [Controller.activate]
@[simp] theorem resize_tierInForce (c : Controller) (profiles : Vector Profile 16) (i : SlotIx) (f : Nat) :
    (c.resize profiles i f).tierInForce = c.tierInForce := by unfold Controller.resize; split <;> (try split) <;> (try split) <;> simp only [putGrant_tierInForce, enterRun_tierInForce, leaveRun_tierInForce]
@[simp] theorem resize_peakInForce (c : Controller) (profiles : Vector Profile 16) (i : SlotIx) (f : Nat) :
    (c.resize profiles i f).peakInForce = c.peakInForce := by unfold Controller.resize; split <;> (try split) <;> (try split) <;> simp only [putGrant_peakInForce, enterRun_peakInForce, leaveRun_peakInForce]
@[simp] theorem resize_chargeInForce (c : Controller) (profiles : Vector Profile 16) (i : SlotIx) (f : Nat) :
    (c.resize profiles i f).chargeInForce = c.chargeInForce := by unfold Controller.resize; split <;> (try split) <;> (try split) <;> simp only [putGrant_chargeInForce, enterRun_chargeInForce, leaveRun_chargeInForce]
@[simp] theorem resize_repack (c : Controller) (profiles : Vector Profile 16) (i : SlotIx) (f : Nat) :
    (c.resize profiles i f).repack = c.repack := by unfold Controller.resize; split <;> (try split) <;> (try split) <;> simp only [putGrant_repack, enterRun_repack, leaveRun_repack]
@[simp] theorem resize_held (c : Controller) (profiles : Vector Profile 16) (i : SlotIx) (f : Nat) :
    (c.resize profiles i f).held = c.held := by unfold Controller.resize; split <;> (try split) <;> (try split) <;> simp only [putGrant_held, enterRun_held, leaveRun_held]
@[simp] theorem resize_planSerial (c : Controller) (profiles : Vector Profile 16) (i : SlotIx) (f : Nat) :
    (c.resize profiles i f).planSerial = c.planSerial := by unfold Controller.resize; split <;> (try split) <;> (try split) <;> simp only [putGrant_planSerial, enterRun_planSerial, leaveRun_planSerial]
@[simp] theorem resize_summaryA (c : Controller) (profiles : Vector Profile 16) (i : SlotIx) (f : Nat) :
    (c.resize profiles i f).summaryA = c.summaryA := by unfold Controller.resize; split <;> (try split) <;> (try split) <;> simp only [putGrant_summaryA, enterRun_summaryA, leaveRun_summaryA]
@[simp] theorem resize_summaryB (c : Controller) (profiles : Vector Profile 16) (i : SlotIx) (f : Nat) :
    (c.resize profiles i f).summaryB = c.summaryB := by unfold Controller.resize; split <;> (try split) <;> (try split) <;> simp only [putGrant_summaryB, enterRun_summaryB, leaveRun_summaryB]

/-- Freeing a slot empties it, advances its generation, and touches no other slot. -/
theorem free_slot (c : Controller) (profiles : Vector Profile 16) (i : SlotIx) :
    (c.free profiles i).table[i] = ⟨c.table[i].generation + 1, none⟩ := by simp [Controller.free]
theorem free_slot_of_ne (c : Controller) (profiles : Vector Profile 16) {i j : SlotIx} (h : j ≠ i) :
    (c.free profiles i).table[j] = c.table[j] := by
  rw [Controller.free, emptySlot_slot_of_ne _ h, detach_table]

/-- Retiring a grant closes its record with the reason and notice CLOSED, and touches no other slot. -/
theorem retire_slot {c : Controller} {i : SlotIx} {g : Grant} (h : c.grantAt i = some g) (profiles : Vector Profile 16)
    (r : CloseReason) : (c.retire profiles i r).table[i] = ⟨c.table[i].generation,
      some { g with state := .closed r, notices := { g.notices with closed := true } }⟩ := by
  simp [Controller.retire, h]
theorem retire_slot_of_ne (c : Controller) (profiles : Vector Profile 16) (r : CloseReason) {i j : SlotIx} (h : j ≠ i) :
    (c.retire profiles i r).table[j] = c.table[j] := by
  unfold Controller.retire; split
  · rfl
  · rw [putGrant_slot_of_ne _ _ h, detach_table]

/-- Shedding a grant leaves it DEFERRED with notice SHED, and touches no other slot. -/
theorem shed_slot {c : Controller} {i : SlotIx} {g : Grant} (h : c.grantAt i = some g) (profiles : Vector Profile 16) :
    (c.shed profiles i).table[i] = ⟨c.table[i].generation,
      some { g with state := .deferred, notices := { g.notices with shed := true } }⟩ := by
  simp [Controller.shed, h]
theorem shed_slot_of_ne (c : Controller) (profiles : Vector Profile 16) {i j : SlotIx} (h : j ≠ i) :
    (c.shed profiles i).table[j] = c.table[j] := by
  unfold Controller.shed; split
  · rfl
  · rw [enterWaiting_table, putGrant_slot_of_ne _ _ h, detach_table]

/-- Preempting a holder leaves it QUEUED with notice PREEMPTED, and touches no other slot. -/
theorem preempt_slot {c : Controller} {i : SlotIx} {g : Grant} (h : c.grantAt i = some g) (profiles : Vector Profile 16) :
    (c.preempt profiles i).table[i] = ⟨c.table[i].generation,
      some { g with state := .queued, notices := { g.notices with preempted := true } }⟩ := by
  simp [Controller.preempt, h]
theorem preempt_slot_of_ne (c : Controller) (profiles : Vector Profile 16) {i j : SlotIx} (h : j ≠ i) :
    (c.preempt profiles i).table[j] = c.table[j] := by
  unfold Controller.preempt; split
  · rfl
  · rw [enterWaiting_table, putGrant_slot_of_ne _ _ h, detach_table]
/-- Preemption leaves the account as the holder's departure does. -/
theorem preempt_account (c : Controller) (profiles : Vector Profile 16) (i : SlotIx) :
    (c.preempt profiles i).loadMap = (c.detach profiles i).loadMap ∧
    (c.preempt profiles i).totalCharge = (c.detach profiles i).totalCharge ∧
    (c.preempt profiles i).admission = (c.detach profiles i).admission := by
  cases h : c.grantAt i with
  | none => simp [Controller.preempt, h, detach_free h]
  | some g => simp [Controller.preempt, h]

/-- Activating a grant: its slot, the tail of the admission list, its run in the map and the charge. -/
theorem activate_slot (c : Controller) (profiles : Vector Profile 16) (i : SlotIx) (g : Grant) (s : Segment) (f : Nat) :
    (c.activate profiles i g s f).table[i] = ⟨c.table[i].generation, some { g with state := .active s f }⟩ := by
  simp [Controller.activate]
theorem activate_slot_of_ne (c : Controller) (profiles : Vector Profile 16) {i j : SlotIx} (g : Grant) (s : Segment)
    (f : Nat) (h : j ≠ i) : (c.activate profiles i g s f).table[j] = c.table[j] := by
  simp only [Controller.activate, enterRun_table, putGrant_slot_of_ne _ _ h]
@[simp] theorem activate_waiting (c : Controller) (profiles : Vector Profile 16) (i : SlotIx) (g : Grant) (s : Segment)
    (f : Nat) : (c.activate profiles i g s f).waiting = c.waiting := by simp [Controller.activate]
@[simp] theorem activate_admission (c : Controller) (profiles : Vector Profile 16) (i : SlotIx) (g : Grant) (s : Segment)
    (f : Nat) : (c.activate profiles i g s f).admission = c.admission ++ [i] := by simp [Controller.activate]
@[simp] theorem activate_load (c : Controller) (profiles : Vector Profile 16) (i : SlotIx) (g : Grant) (s : Segment)
    (f : Nat) (k : Segment) : (c.activate profiles i g s f).loadMap[k] =
      c.loadMap[k] + if covers s f k then currentOf profiles g.channel else 0 := by
  simp only [Controller.activate, enterRun_load, putGrant_loadMap]
@[simp] theorem activate_totalCharge (c : Controller) (profiles : Vector Profile 16) (i : SlotIx) (g : Grant)
    (s : Segment) (f : Nat) :
    (c.activate profiles i g s f).totalCharge = c.totalCharge + currentOf profiles g.channel * f := by
  simp only [Controller.activate, enterRun_totalCharge, putGrant_totalCharge]

/-- Resizing an ACTIVE grant's reservation: its slot, and no other. -/
theorem resize_slot {c : Controller} {i : SlotIx} {g : Grant} {s : Segment} {r : Nat} (h : c.grantAt i = some g)
    (hs : g.state = .active s r) (profiles : Vector Profile 16) (f : Nat) :
    (c.resize profiles i f).table[i] = ⟨c.table[i].generation, some { g with state := .active s f }⟩ := by
  simp only [Controller.resize, h, hs]; split <;> simp
theorem resize_slot_of_ne (c : Controller) (profiles : Vector Profile 16) (f : Nat) {i j : SlotIx} (h : j ≠ i) :
    (c.resize profiles i f).table[j] = c.table[j] := by
  unfold Controller.resize; split
  · split
    · simp only [apply_ite Controller.table, enterRun_table, leaveRun_table, ite_self, putGrant_slot_of_ne _ _ h]
    · rfl
  · rfl
@[simp] theorem resize_lists (c : Controller) (profiles : Vector Profile 16) (i : SlotIx) (f : Nat) :
    (c.resize profiles i f).waiting = c.waiting ∧ (c.resize profiles i f).admission = c.admission := by
  unfold Controller.resize; split <;> (try split) <;> (try split) <;> simp only [putGrant_waiting, putGrant_admission, enterRun_waiting, enterRun_admission, leaveRun_waiting, leaveRun_admission, and_self]

/-! ## The lease tick at one slot -/

/-- Writing the record of a slot that holds a grant names the same slots by handle, so the adjusted grant stays the adjusted
grant. -/
theorem putGrant_adjusting {c : Controller} {i : SlotIx} {g : Grant} (h : c.grantAt i = some g) (g' : Grant) (j : SlotIx) :
    (c.putGrant i g').adjusting j = c.adjusting j := by
  have same : ∀ n, ((c.putGrant i g').lookup n).any (fun x => x.1 == j) = (c.lookup n).any fun x => x.1 == j := by
    intro n
    have hh : (c.putGrant i g').handleAt (handleSlot n) = c.handleAt (handleSlot n) := by simp only [handleAt_def, putGrant_generation]
    unfold Controller.lookup
    rw [hh]
    by_cases e : handleSlot n = i
    · subst e; rw [h, putGrant_grantAt]; dsimp only; split <;> rfl
    · rw [putGrant_grantAt_of_ne _ _ e]
  simp only [Controller.adjusting, putGrant_held, Controller.inFlight, putGrant_repack, same]

/-- A tick that does not expire the adjusted grant of a repack changes the controller as leaseTickSlot says (R115, R116). -/
theorem tickSlot_ctl {s : State} {i : SlotIx} (h : s.ctl.adjusting i = false ∨ s.ctl.expiresAtTick i = false) :
    (s.tickSlot i).ctl = leaseTickSlot s.config.profiles s.ctl i := by
  unfold State.tickSlot leaseTickSlot
  unfold Controller.expiresAtTick at h
  cases hg : s.ctl.grantAt i with
  | none => rfl
  | some g =>
    cases hl : g.isLiving <;> cases hr : g.leaseRemaining with
    | none => simp [Grant.leaseAfterTick, hl, hr]
    | some n =>
      first
      | simp [Grant.leaseAfterTick, hl, hr]; done
      | have z : n - 1 = 0 ↔ n ≤ 1 := by omega
        simp only [Grant.leaseAfterTick, hl, hr, if_true, Option.map_some, z, State.retireGrant]
        by_cases e : n ≤ 1
        · have a : s.ctl.adjusting i = false := by
            rcases h with h | h
            · exact h
            · simp [hg, Grant.leaseAfterTick, hl, hr] at h; omega
          simp [e, putGrant_adjusting hg, a]
        · simp [e]

/-- A tick that expires the adjusted grant abandons its repack first (R116, R96). -/
theorem tickSlot_ctl_of_adjusting {s : State} {i : SlotIx} (h : s.ctl.adjusting i = true) (he : s.ctl.expiresAtTick i = true) :
    (s.tickSlot i).ctl = leaseTickSlot s.config.profiles (withoutRepack s.ctl) i := by
  have flying : s.ctl.inFlight = true := by
    unfold Controller.adjusting at h; split at h
    · split at h <;> simp_all
    · simp at h
  unfold State.tickSlot leaseTickSlot
  unfold Controller.expiresAtTick at he
  cases hg : s.ctl.grantAt i with
  | none => simp [hg] at he
  | some g =>
    cases hl : g.isLiving <;> cases hr : g.leaseRemaining with
    | none => simp [hg, Grant.leaseAfterTick, hl, hr] at he
    | some n =>
      first
      | simp [hg, Grant.leaseAfterTick, hl] at he; done
      | have z : n - 1 = 0 := by simpa [hg, Grant.leaseAfterTick, hl, hr] using he
        have e : n ≤ 1 := by omega
        simp only [Grant.leaseAfterTick, hl, hr, if_true, Option.map_some, z, State.retireGrant, withoutRepack_grantAt, hg, e,
          withCtl_ctl, putGrant_adjusting hg, h, abandon_config, withCtl_config]
        rw [abandon_ctl_of_inFlight (by simpa [Controller.inFlight] using flying)]; rfl

end Sys2Proof.Laws
end

