-- ==== Sys2Proof/Laws/Pass.lean ====
section
/-! SUPPORT. What the retry pass and the sheds can do: one visit, one shed, and the induction over each. -/

namespace Sys2Proof.Laws

open Sys2Proof Sys2Proof.Machine Sys2Proof.Safety

/-! ## The retry pass -/

/-- A visit leaves the controller, or admits the waiting grant of its slot where it was placed, or promotes it to DEFERRED. -/
theorem visit_cases (profiles : Vector Profile 16) (c : Controller) (i : SlotIx) :
    c.visit profiles i = c ∨ ∃ g, c.grantAt i = some g ∧ c.eligible g = true ∧
      ((∃ s, c.placeUnlessTier3 profiles g.channel g.neededFootprint = some s ∧
          c.visit profiles i = c.admitGrant profiles i g s) ∨
        (c.placeUnlessTier3 profiles g.channel g.neededFootprint = none ∧ c.visit profiles i = c.promote i g)) := by
  unfold Controller.visit
  split
  · exact .inl rfl
  · rename_i g hg
    split
    · rename_i he
      right
      refine ⟨g, hg, he, ?_⟩
      split
      · rename_i s hs; exact .inl ⟨s, hs, rfl⟩
      · rename_i hn; exact .inr ⟨hn, rfl⟩
    · exact .inl rfl

/-- What every visit keeps, the pass keeps. -/
theorem retryPass_induct {motive : Controller → Prop} {profiles : Vector Profile 16} {c : Controller} (start : motive c)
    (visit : ∀ d i, motive d → motive (d.visit profiles i)) : motive (c.retryPass profiles) := by
  have walk : ∀ (l : List SlotIx) (d : Controller), motive d → motive (l.foldl (Controller.visit profiles) d) := by
    intro l
    induction l with
    | nil => exact fun d h => h
    | cons i l ih => exact fun d h => ih _ (visit d i h)
  exact walk _ _ start

/-- What every visit keeps, the pass of an event keeps, whether or not it runs. -/
theorem passIf_induct {motive : Controller → Prop} {profiles : Vector Profile 16} {c : Controller} {trigger : Bool}
    (start : motive c) (visit : ∀ d i, motive d → motive (d.visit profiles i)) : motive (c.passIf profiles trigger) := by
  unfold Controller.passIf
  split
  · exact retryPass_induct start visit
  · exact start

/-- No trigger, no pass; a repack in flight holds the pass back; without one a trigger runs it (R71, R72). -/
@[simp] theorem passIf_false (c : Controller) (profiles : Vector Profile 16) : c.passIf profiles false = c := rfl
theorem passIf_of_inFlight {c : Controller} (h : c.inFlight = true) (profiles : Vector Profile 16) (trigger : Bool) :
    c.passIf profiles trigger = c := by simp [Controller.passIf, h]
theorem passIf_of_idle {c : Controller} (h : c.inFlight = false) (profiles : Vector Profile 16) :
    c.passIf profiles true = c.retryPass profiles := by simp [Controller.passIf, h]
@[simp] theorem passIf_withoutRepack (c : Controller) (profiles : Vector Profile 16) :
    (withoutRepack c).passIf profiles true = (withoutRepack c).retryPass profiles := rfl

/-- An eligible grant waits. -/
theorem eligible_waits {c : Controller} {g : Grant} (h : c.eligible g = true) : g.waits = true := by
  unfold Controller.eligible at h
  unfold Grant.waits
  unfold Grant.isQueued at h
  cases hs : g.state <;> simp_all

/-- Ceilings and repack are no pass's business. -/
theorem visit_ceilings (profiles : Vector Profile 16) (c : Controller) (i : SlotIx) :
    CeilingsAndRepackKept c (c.visit profiles i) := by
  rcases visit_cases profiles c i with h | ⟨g, -, -, ⟨s, -, h⟩ | ⟨-, h⟩⟩ <;> rw [h] <;>
    simp [CeilingsAndRepackKept, Controller.admitGrant, Controller.promote]

theorem retryPass_ceilings (profiles : Vector Profile 16) (c : Controller) :
    CeilingsAndRepackKept c (c.retryPass profiles) :=
  retryPass_induct (motive := CeilingsAndRepackKept c) (by simp [CeilingsAndRepackKept]) fun d i h => by
    have v := visit_ceilings profiles d i
    unfold CeilingsAndRepackKept at *
    exact ⟨v.1.trans h.1, v.2.1.trans h.2.1, v.2.2.1.trans h.2.2.1, v.2.2.2.1.trans h.2.2.2.1,
      v.2.2.2.2.1.trans h.2.2.2.2.1, v.2.2.2.2.2.trans h.2.2.2.2.2⟩

/-- A pass moves no generation. -/
theorem visit_generation (profiles : Vector Profile 16) (c : Controller) (i j : SlotIx) :
    (c.visit profiles i).table[j].generation = c.table[j].generation := by
  rcases visit_cases profiles c i with h | ⟨g, -, -, ⟨s, -, h⟩ | ⟨-, h⟩⟩
  · rw [h]
  · rw [h, Controller.admitGrant]
    by_cases e : j = i
    · subst e; rw [activate_slot]; simp
    · rw [activate_slot_of_ne _ _ _ _ _ e, detach_table]
  · rw [h, Controller.promote, putGrant_generation]

theorem retryPass_generation (profiles : Vector Profile 16) (c : Controller) (j : SlotIx) :
    (c.retryPass profiles).table[j].generation = c.table[j].generation :=
  retryPass_induct (motive := fun d => d.table[j].generation = c.table[j].generation) rfl
    fun d i h => (visit_generation profiles d i j).trans h

/-- A grant that does not wait is passed over. -/
theorem visit_grantAt_of_not_waits (profiles : Vector Profile 16) (c : Controller) (i j : SlotIx)
    (h : (c.grantAt j).any Grant.waits = false) : (c.visit profiles i).grantAt j = c.grantAt j := by
  rcases visit_cases profiles c i with hv | ⟨g, hg, he, hc⟩
  · rw [hv]
  · have hw := eligible_waits he
    have ne : j ≠ i := by rintro rfl; simp [hg, hw] at h
    rcases hc with ⟨s, -, hv⟩ | ⟨-, hv⟩
    · rw [hv, Controller.admitGrant, grantAt_def, activate_slot_of_ne _ _ _ _ _ ne, detach_table, grantAt_def]
    · rw [hv, Controller.promote, putGrant_grantAt_of_ne _ _ ne]

theorem retryPass_grantAt_of_not_waits (profiles : Vector Profile 16) (c : Controller) (j : SlotIx)
    (h : (c.grantAt j).any Grant.waits = false) : (c.retryPass profiles).grantAt j = c.grantAt j :=
  retryPass_induct (motive := fun d => d.grantAt j = c.grantAt j) rfl fun d i hd =>
    (visit_grantAt_of_not_waits profiles d i j (by rw [hd]; exact h)).trans hd

/-! ## Sheds -/

/-- A choice is one of the admission list's ACTIVE grants that meet the test. -/
theorem shedChoice_mem {c : Controller} {test : Grant → Bool} {i : SlotIx} (h : c.shedChoice test = some i) :
    i ∈ c.admission ∧ ∃ g, c.grantAt i = some g ∧ g.isActive = true ∧ test g = true := by
  have pick : ∀ (l : List SlotIx) (best : Option SlotIx), l.foldl (fun best i =>
      match best with
      | none => some i
      | some b => if c.priorityAt i ≤ c.priorityAt b then some i else some b) best = some i → best = some i ∨ i ∈ l := by
    intro l
    induction l with
    | nil => exact fun best h => .inl h
    | cons j l ih =>
      intro best h
      rcases ih _ h with e | m
      · cases best with
        | none => exact .inr (by simp_all)
        | some b =>
          by_cases hb : c.priorityAt j ≤ c.priorityAt b
          · exact .inr (by simp_all)
          · exact .inl (by simpa [hb] using e)
      · exact .inr (List.mem_cons_of_mem _ m)
  obtain e | m := pick _ _ h
  · simp at e
  · rw [List.mem_filter] at m
    cases hg : c.grantAt i with
    | none => simp [hg] at m
    | some g => exact ⟨m.1, g, rfl, by simpa [hg] using m.2⟩

/-- The next grant to shed is one of the admission list's ACTIVE grants. -/
theorem nextShed_mem {c : Controller} {i : SlotIx} (h : c.nextShed = some i) :
    i ∈ c.admission ∧ ∃ g, c.grantAt i = some g ∧ g.isActive = true := by
  have weaken : ∀ {test}, c.shedChoice test = some i → i ∈ c.admission ∧ ∃ g, c.grantAt i = some g ∧ g.isActive = true :=
    fun h => have ⟨m, g, hg, ha, _⟩ := shedChoice_mem h; ⟨m, g, hg, ha⟩
  unfold Controller.nextShed at h
  split at h
  · exact weaken h
  · split at h
    · exact weaken h
    · split at h
      · exact weaken h
      · simp at h

/-- What every shed of a chosen grant keeps, a tier drop's sheds keep. -/
theorem shedAll_induct {motive : Controller → Prop} {profiles : Vector Profile 16} {c : Controller} (start : motive c)
    (shed : ∀ d i, d.nextShed = some i → motive d → motive (d.shed profiles i)) : motive (c.shedAll profiles) := by
  have loop : ∀ (n : Nat) (d : Controller), motive d → motive (shedLoop profiles n d) := by
    intro n
    induction n with
    | zero => exact fun d h => h
    | succ n ih =>
      intro d h
      unfold shedLoop
      split
      · rename_i i hi; exact ih _ (shed d i hi h)
      · exact h
  exact loop _ _ start

/-! ## Where a retry pass, a shed or a tick walks the slots -/

/-- What every element's step keeps, a walk keeps. -/
theorem foldl_induct {α β : Type} {motive : α → Prop} {f : α → β → α} {a : α} {l : List β} (start : motive a)
    (each : ∀ x b, b ∈ l → motive x → motive (f x b)) : motive (l.foldl f a) := by
  induction l generalizing a with
  | nil => exact start
  | cons b l ih => exact ih (each a b (by simp) start) fun x b' hb => each x b' (by simp [hb])

end Sys2Proof.Laws
end

