-- ==== Sys2Proof/Laws/Planner.lean ====
section
/-! SUPPORT. What the planner can do: its order, one placement after another, and the outcome on an input set. -/

namespace Sys2Proof.Laws

open Sys2Proof Sys2Proof.Machine Sys2Proof.Safety

/-! ## The order (R83) -/

theorem planOrder_perm (input : List PlanEntry) : (planOrder input).Perm input := List.perm_insertionSort _ _

/-- The planner's comparison is the order of R83. -/
theorem planBefore_iff (a b : PlanEntry) : planBefore a b = true ↔ PlacedBefore a b := by
  unfold planBefore PlacedBefore PlanEntry.rank
  cases a.pinned <;> cases b.pinned <;> simp
  by_cases f : a.footprint = b.footprint <;> by_cases c : a.current = b.current <;>
    by_cases p : a.priority = b.priority <;> simp [f, c, p, eq_comm] <;> rfl

theorem planBefore_total (a b : PlanEntry) : planBefore a b = true ∨ planBefore b a = true := by
  simp only [planBefore_iff, PlacedBefore, Fin.lt_def, Fin.ext_iff]
  cases a.pinned <;> cases b.pinned <;> simp <;> omega

theorem planBefore_trans {a b c : PlanEntry} (hab : planBefore a b = true) (hbc : planBefore b c = true) :
    planBefore a c = true := by
  simp only [planBefore_iff, PlacedBefore, Fin.lt_def, Fin.ext_iff] at *
  generalize ha : a.pinned = x at *
  generalize hb : b.pinned = y at *
  generalize hc : c.pinned = z at *
  cases x <;> cases y <;> cases z <;> simp at * <;> omega

theorem planOrder_placedBefore (input : List PlanEntry) : (planOrder input).Pairwise PlacedBefore := by
  have : Std.Total fun a b : PlanEntry => planBefore a b = true := ⟨planBefore_total⟩
  have : IsTrans PlanEntry fun a b => planBefore a b = true := ⟨fun _ _ _ => planBefore_trans⟩
  exact (List.pairwise_insertionSort (fun a b => planBefore a b = true) input).imp (planBefore_iff _ _).1

/-! ## One placement after another (R84) -/

theorem planLoad_append (l : List Proposal) (q : Proposal) (k : Segment) :
    planLoad (l ++ [q]) k = planLoad l k + if covers q.start q.entry.footprint k then q.entry.current else 0 := by
  simp [planLoad]

theorem planCharge_append (l : List Proposal) (q : Proposal) :
    planCharge (l ++ [q]) = planCharge l + q.entry.current * q.entry.footprint := by
  simp [planCharge]

/-- The planner's working map and charge are what the proposals placed so far put there. -/
def HoldsPlaced (p : Planner) (placed : List Proposal) : Prop :=
  p.workMap = (Vector.ofFn fun k => planLoad placed k) ∧ p.workCharge = planCharge placed

/-- Each of these proposals, made after those placed, is the first-fit start of its entry. -/
def PlacedAfter (peak charge : Nat) (placed more : List Proposal) : Prop :=
  ∀ before q after, more = before ++ q :: after → fitAfter peak charge (placed ++ before) q.entry = some q.start

theorem placedAfter_cons {peak charge : Nat} {placed more : List Proposal} {q : Proposal}
    (hq : fitAfter peak charge placed q.entry = some q.start) (h : PlacedAfter peak charge (placed ++ [q]) more) :
    PlacedAfter peak charge placed (q :: more) := by
  intro before q' after e
  cases before with
  | nil => obtain ⟨rfl, -⟩ := List.cons.inj e; simpa using hq
  | cons b before => obtain ⟨rfl, hm⟩ := List.cons.inj e; simpa using h before q' after hm

/-- What placing the entries left can do: each takes its first-fit start after those before it, or one fits nowhere and there
is no plan. Serial, input set and copied ceilings stay. -/
theorem buildPlan_outcome (p : Planner) (placed : List Proposal) (l : List PlanEntry) (hw : HoldsPlaced p placed) :
    (buildPlan p placed l).serial = p.serial ∧ (buildPlan p placed l).input = p.input ∧
    (buildPlan p placed l).peak = p.peak ∧ (buildPlan p placed l).charge = p.charge ∧
    ∃ more, PlacedAfter p.peak p.charge placed more ∧
      (((buildPlan p placed l).plan = some (placed ++ more) ∧ more.map Proposal.entry = l) ∨
       ((buildPlan p placed l).plan = none ∧ ∃ e rest, l = more.map Proposal.entry ++ e :: rest ∧
          fitAfter p.peak p.charge (placed ++ more) e = none)) := by
  induction l generalizing p placed with
  | nil => exact ⟨rfl, rfl, rfl, rfl, [], by simp [PlacedAfter], .inl ⟨by simp [buildPlan], rfl⟩⟩
  | cons e rest ih =>
    have fit : firstFit p.workMap p.workCharge p.peak p.charge e.current e.home e.pinned e.footprint =
        fitAfter p.peak p.charge placed e := by rw [hw.1, hw.2]; rfl
    unfold buildPlan
    rw [fit]
    cases hf : fitAfter p.peak p.charge placed e with
    | none => exact ⟨rfl, rfl, rfl, rfl, [], by simp [PlacedAfter], .inr ⟨rfl, e, rest, rfl, by simpa using hf⟩⟩
    | some s =>
      have next := ih { p with
          workMap := raiseRun p.workMap e.current s e.footprint
          workCharge := p.workCharge + e.current * e.footprint } (placed ++ [⟨e, s⟩])
        ⟨by rw [hw.1]; ext k hk; simp [raiseRun, planLoad_append], by rw [hw.2, planCharge_append]⟩
      obtain ⟨h1, h2, h3, h4, more, hm, ho⟩ := next
      refine ⟨h1, h2, h3, h4, ⟨e, s⟩ :: more, placedAfter_cons hf hm, ?_⟩
      rcases ho with ⟨hp, hl⟩ | ⟨hp, e', rest', hl, hn⟩
      · exact .inl ⟨by simpa using hp, by simp [hl]⟩
      · exact .inr ⟨hp, e', rest', by simp [hl], by simpa using hn⟩

/-! ## The input set (R81) -/

theorem planEntryOf_eq (profiles : Vector Profile 16) (slot : Option SlotIx) (ch : Channel) (priority : Priority) (f : Nat) :
    planEntryOf profiles slot ch priority f = inputEntry profiles slot ch priority f := rfl
theorem activeEntries_reservations (s : State) :
    activeEntries s.ctl s.config.profiles none = activeInputs s fun _ g => g.room := by
  unfold activeEntries activeInputs
  congr 1; funext i
  cases s.ctl.grantAt i <;> rfl
theorem activeEntries_adjusted (s : State) (i : SlotIx) (need : Nat) :
    activeEntries s.ctl s.config.profiles (some (i, need)) = activeInputs s fun j g => if j = i then need else g.room := by
  unfold activeEntries activeInputs
  congr 1; funext j
  cases s.ctl.grantAt j with
  | none => rfl
  | some g => simp only [planEntryOf_eq, Option.bind_some, @eq_comm _ i j]

/-! ## The outcome on an input set (R82) -/

theorem takeInput_outcome (serial : Byte) (input : List PlanEntry) (peak charge : Nat) :
    (takeInput serial input peak charge).serial = serial ∧ (takeInput serial input peak charge).input = input ∧
    (takeInput serial input peak charge).peak = peak ∧ (takeInput serial input peak charge).charge = charge ∧
    PlansAs input peak charge (takeInput serial input peak charge).plan := by
  obtain ⟨h1, h2, h3, h4, more, hm, ho⟩ := buildPlan_outcome ⟨serial, input, peak, charge, Vector.replicate 64 0, 0, none⟩ []
    (planOrder input) ⟨by ext k hk; simp [planLoad], by simp [planCharge]⟩
  refine ⟨h1, h2, h3, h4, planOrder input, planOrder_perm input, planOrder_placedBefore input, ?_⟩
  unfold takeInput
  rcases ho with ⟨hp, hl⟩ | ⟨hp, e, rest, hl, hn⟩
  · rw [hp]; exact ⟨hl, hm⟩
  · rw [hp]; exact ⟨more, e, rest, hl, hm, hn⟩

end Sys2Proof.Laws
end

