-- ==== Sys2Proof/Laws/Requests.lean ====
section
/-! SUPPORT. How a request runs: the take and the common checks, the handle checks, and the command of each code. -/

namespace Sys2Proof.Laws

open Sys2Proof Sys2Proof.Machine Sys2Proof.Safety

/-! ## The command of each code -/

@[simp] theorem requestCommand_grant (p : Port) (c : Byte) (pl : List Byte) : requestCommand p c 0x01 pl = .grant p c pl := rfl
@[simp] theorem requestCommand_adjust (p : Port) (c : Byte) (pl : List Byte) : requestCommand p c 0x02 pl = .adjust p c pl := rfl
@[simp] theorem requestCommand_renew (p : Port) (c : Byte) (pl : List Byte) : requestCommand p c 0x03 pl = .renew p c pl := rfl
@[simp] theorem requestCommand_release (p : Port) (c : Byte) (pl : List Byte) : requestCommand p c 0x04 pl = .release p c pl := rfl
@[simp] theorem requestCommand_ack (p : Port) (c : Byte) (pl : List Byte) : requestCommand p c 0x05 pl = .ack p c pl := rfl
@[simp] theorem requestCommand_revoke (p : Port) (c : Byte) (pl : List Byte) : requestCommand p c 0x06 pl = .revoke p c pl := rfl
@[simp] theorem requestCommand_drop (p : Port) (c : Byte) (pl : List Byte) : requestCommand p c 0x07 pl = .dropClient p c pl := rfl
@[simp] theorem requestCommand_query (p : Port) (c : Byte) (pl : List Byte) : requestCommand p c 0x10 pl = .query p c pl := rfl
@[simp] theorem requestCommand_list (p : Port) (c : Byte) (pl : List Byte) : requestCommand p c 0x11 pl = .list p c pl := rfl
@[simp] theorem requestCommand_mapRead (p : Port) (c : Byte) (pl : List Byte) : requestCommand p c 0x12 pl = .mapRead p c pl := rfl
@[simp] theorem requestCommand_status (p : Port) (c : Byte) (pl : List Byte) : requestCommand p c 0x13 pl = .status p c pl := rfl
@[simp] theorem requestCommand_getProfile (p : Port) (c : Byte) (pl : List Byte) :
    requestCommand p c 0x14 pl = .getProfile p c pl := rfl
@[simp] theorem requestCommand_clearFault (p : Port) (c : Byte) (pl : List Byte) :
    requestCommand p c 0x18 pl = .clearFault p c pl := rfl
@[simp] theorem requestCommand_setProfile (p : Port) (c : Byte) (pl : List Byte) :
    requestCommand p c 0x20 pl = .setProfile p c pl := rfl
@[simp] theorem requestCommand_setTiers (p : Port) (c : Byte) (pl : List Byte) : requestCommand p c 0x21 pl = .setTiers p c pl := rfl
@[simp] theorem requestCommand_setMonitor (p : Port) (c : Byte) (pl : List Byte) :
    requestCommand p c 0x22 pl = .setMonitor p c pl := rfl
@[simp] theorem requestCommand_setFrame (p : Port) (c : Byte) (pl : List Byte) : requestCommand p c 0x23 pl = .setFrame p c pl := rfl
@[simp] theorem requestCommand_start (p : Port) (c : Byte) (pl : List Byte) : requestCommand p c 0x28 pl = .start p c pl := rfl
@[simp] theorem requestCommand_stop (p : Port) (c : Byte) (pl : List Byte) : requestCommand p c 0x29 pl = .stop p c pl := rfl
@[simp] theorem requestCommand_clear (p : Port) (c : Byte) (pl : List Byte) : requestCommand p c 0x2A pl = .clear p c pl := rfl

/-! ## The take and the common checks -/

/-- Where the arbiter's next take is another request, nothing is taken. -/
theorem runRequest_not_taken {s : State} {p : Port} {client code : Byte} {payload : List Byte}
    (h : ¬ Takes s p client code payload) (body : Taken → State → State) : runRequest p client code payload body s = s := by
  unfold Takes at h
  rw [runRequest, if_neg h]

/-- The answer to a request taken is the state of a request that changes nothing else. -/
theorem answer_markTaken (s : State) (p : Port) (who : Client) (client code : Byte) (req : Request) (r : Result)
    (payload : List Byte) :
    answer ⟨p, who, client, code⟩ r payload (s.markTaken p req) = answeredState s p client code r payload := by
  cases p <;> rfl

theorem runRequest_badClient {s : State} {p : Port} {client code : Byte} {payload : List Byte}
    (h : Takes s p client code payload) (hc : clientOnPort p client = none) (body : Taken → State → State) :
    runRequest p client code payload body s = answeredState s p client code .badClient [] := by
  unfold Takes at h
  rw [runRequest, if_pos h]
  simp only [hc, answer_markTaken]

theorem runRequest_refused {s : State} {p : Port} {client code : Byte} {payload : List Byte} {who : Client} {r : Result}
    (h : Takes s p client code payload) (hc : clientOnPort p client = some who) (hr : requestRefusal who code payload = some r)
    (body : Taken → State → State) :
    runRequest p client code payload body s = answeredState s p client code r [] := by
  unfold Takes at h
  rw [runRequest, if_pos h]
  simp only [hc, hr, answer_markTaken]

/-- A request that passes the common checks is judged by its own rule, on the state with the request marked taken. -/
theorem runRequest_served {s : State} {p : Port} {client code : Byte} {payload : List Byte} {who : Client}
    (h : Served s p client code payload who) (body : Taken → State → State) :
    runRequest p client code payload body s = body ⟨p, who, client, code⟩ (s.markTaken p ⟨client, code, payload⟩) := by
  obtain ⟨ht, hc, hr⟩ := h
  unfold Takes at ht
  rw [runRequest, if_pos ht]
  simp only [hc, hr]

/-- Everything a request's command can do. -/
theorem runRequest_cases (s : State) (p : Port) (client code : Byte) (payload : List Byte) (body : Taken → State → State) :
    (¬ Takes s p client code payload ∧ runRequest p client code payload body s = s) ∨
    (Takes s p client code payload ∧ ∃ r, runRequest p client code payload body s = answeredState s p client code r []) ∨
    ∃ who, Served s p client code payload who ∧ runRequest p client code payload body s =
      body ⟨p, who, client, code⟩ (s.markTaken p ⟨client, code, payload⟩) := by
  by_cases h : Takes s p client code payload
  · cases hc : clientOnPort p client with
    | none => exact .inr (.inl ⟨h, _, runRequest_badClient h hc body⟩)
    | some who =>
      cases hr : requestRefusal who code payload with
      | none => exact .inr (.inr ⟨who, ⟨h, hc, hr⟩, runRequest_served ⟨h, hc, hr⟩ body⟩)
      | some r => exact .inr (.inl ⟨h, _, runRequest_refused h hc hr body⟩)
  · exact .inl ⟨h, runRequest_not_taken h body⟩

/-! ## The handle checks -/

theorem withHandle_wrongMode {s : State} (h : s.running = false) (handle : Option Nat) (t : Taken)
    (body : Nat → SlotIx → Grant → State) : withHandle handle t body s = answer t .wrongMode [] s := by
  simp [withHandle, h]
theorem withHandle_badArg {s : State} (h : s.running = true) (t : Taken) (body : Nat → SlotIx → Grant → State) :
    withHandle none t body s = answer t .badArg [] s := by simp [withHandle, h]
theorem withHandle_stale {s : State} {n : Nat} (h : s.running = true) (hl : s.ctl.lookup n = none) (t : Taken)
    (body : Nat → SlotIx → Grant → State) : withHandle (some n) t body s = answer t .stale [] s := by simp [withHandle, h, hl]
theorem withHandle_named {s : State} {n : Nat} {i : SlotIx} {g : Grant} (h : s.running = true)
    (hl : s.ctl.lookup n = some (i, g)) (t : Taken) (body : Nat → SlotIx → Grant → State) :
    withHandle (some n) t body s = body n i g := by simp [withHandle, h, hl]
theorem ownerOnly_owner {t : Taken} {g : Grant} (h : g.owner = t.who) (body s : State) : ownerOnly t g body s = body := by
  simp [ownerOnly, h]
theorem ownerOnly_other {t : Taken} {g : Grant} (h : g.owner ≠ t.who) (body s : State) :
    ownerOnly t g body s = answer t .notOwner [] s := by simp [ownerOnly, h]
theorem refuseClosed_closed {t : Taken} {g : Grant} {reason : CloseReason} (h : g.state = .closed reason) (body s : State) :
    refuseClosed t g body s = answer t (.closed reason) [] s := by simp [refuseClosed, h]
theorem refuseClosed_living {t : Taken} {g : Grant} (h : g.isLiving = true) (body s : State) :
    refuseClosed t g body s = body := by
  unfold refuseClosed
  cases hs : g.state <;> simp_all [Grant.isLiving, Grant.isClosed]

/-! ## Handles and slots -/

theorem handleSlot_handleValue (i : SlotIx) (n : Generation) : handleSlot (handleValue i n) = i := by
  apply Fin.ext
  simp only [handleSlot, handleValue]
  omega

/-- A handle names the grant in its slot exactly when it is the handle of the slot's present occupant. -/
theorem lookup_some_iff (c : Controller) (h : Nat) (i : SlotIx) (g : Grant) :
    c.lookup h = some (i, g) ↔ c.grantAt i = some g ∧ c.handleAt i = h := by
  unfold Controller.lookup
  constructor
  · intro hl
    split at hl
    · rename_i g' hg
      split at hl
      · rename_i hh
        simp only [Option.some.injEq, Prod.mk.injEq] at hl
        obtain ⟨rfl, rfl⟩ := hl
        exact ⟨hg, hh⟩
      · cases hl
    · cases hl
  · rintro ⟨hg, rfl⟩
    have : handleSlot (c.handleAt i) = i := by rw [handleAt_def, handleSlot_handleValue]
    simp [this, hg]

end Sys2Proof.Laws
end

