-- ==== Sys2Proof/Tests/Slice0.lean ====
section
/-! SUPPORT. The model's own checks, each theorem on small fixed values: ill-formed commands refused, numbers of the spec's
worked examples, and for every statement with hypotheses a state that meets them, clause by clause. -/

namespace Sys2Proof.Tests

set_option Elab.async false

open Sys2Proof Sys2Proof.Machine Sys2Proof.Safety

/-! ## Ill-formed commands -/

/-- Every request command refuses a payload of 25 bytes. -/
theorem test_payloads_too_long : ([.grant, .adjust, .renew, .release, .ack, .revoke, .dropClient, .query, .list, .mapRead,
    .clearFault, .status, .getProfile, .setProfile, .setTiers, .setMonitor, .setFrame, .start, .stop, .clear] :
    List (Port → Byte → List Byte → Instr)).all (fun c => !(c .a 0 (List.replicate 25 0)).wellFormed) = true := by
  decide +kernel
theorem test_payload_of_24_fits : (Instr.setTiers .a 0 (List.replicate 24 0)).wellFormed = true := by decide +kernel
theorem test_known_code_is_no_unknown_request : (Instr.unknownRequest .a 1 0x2A []).wellFormed = false := by decide +kernel
theorem test_unknown_payload_too_long : (Instr.unknownRequest .a 1 0x30 (List.replicate 25 0)).wellFormed = false := by
  decide +kernel
theorem test_handle_out_of_range : (Instr.rampComplete 512 0).wellFormed = false := by decide +kernel
theorem test_duty_out_of_range : (Instr.rampComplete 511 2049).wellFormed = false := by decide +kernel
theorem test_request_kind_is_known : (Instr.unknownTransactionKind 0x3C 0).wellFormed = false := by decide +kernel
theorem test_read_kind_is_known : (Instr.unknownTransactionKind 0xC3 0).wellFormed = false := by decide +kernel
theorem test_no_row_gives_bits : decodeTableWord 8 1 = none := by decide

/-! ## Small states -/

/-- Bytes by their values. -/
def bytes (l : List Nat) : List Byte := l.map (BitVec.ofNat 8)

/-- What a command answers; every command answers a next state. -/
def after (i : Instr) (s : State) : State :=
  match exec i s with
  | .next t => t
  | _ => s

/-- A request that waits at its port for the arbiter. -/
def ask (p : Port) (client code : Byte) (payload : List Nat) (s : State) : State :=
  s.setPort p { s.port p with state := .inFlight, request := some ⟨⟨client, code, bytes payload⟩, .waiting⟩, response := none }

/-- The request taken, right after it came to its port. -/
def served (p : Port) (client code : Byte) (payload : List Nat) (s : State) : State :=
  after (requestCommand p client code (bytes payload)) (ask p client code payload s)

/-- The result and the payload of a port's response. -/
def result (p : Port) (s : State) : Option (Result × List Nat) :=
  (s.port p).response.map fun r => (r.result, r.payload.map BitVec.toNat)

/-- A profile that is enabled, with this current and home. -/
def profile (current : Nat) (home : Segment) : Profile :=
  { Profile.reset 0 with enabled := true, current := current, home := home, readback := true }

/-- RUN at TIER0 with channels CH0..CH3 enabled at these currents and homes, under these ceilings. -/
def inRun (peak charge : Nat) (channels : List (Nat × Segment)) : State :=
  { State.reset with
    config := { Configuration.reset with
      mode := .run
      profiles := Vector.ofFn fun ch => ((channels[ch.val]?).map fun x => profile x.1 x.2).getD (Profile.reset ch)
      tiers := { tier0 := ⟨peak, charge⟩, tier1 := ⟨250, 8500⟩, tier2 := ⟨200, 4000⟩ } }
    ctl := { Controller.reset with peakInForce := peak, chargeInForce := charge } }

/-- A grant of this state, owner, channel and priority, its present and target duty 320. -/
def grantOf (state : GrantState) (owner : Client) (channel : Channel) (priority : Priority) : Grant :=
  { state := state, owner := owner, channel := channel, priority := priority, targetDuty := 320, presentDuty := 320,
    rampRate := 64, rampNotify := true, leaseLength := 4, leaseRemaining := some 3, notices := Notices.empty }

/-- The slot holds the grant, in the lists and the room account too. -/
def holding (i : SlotIx) (g : Grant) (s : State) : State :=
  (s.withCtl (match g.state with
    | .active start r => s.ctl.activate s.config.profiles i g start r
    | .closed _ => s.ctl.putGrant i g
    | _ => (s.ctl.putGrant i g).enterWaiting i)).refreshAlerts

/-- Four channels of current 100 with room to spare. -/
def roomy : State := inRun 1000 32000 [(100, 0), (100, 16), (100, 32), (100, 48)]

/-- ACTIVE at segments 0..9 on CH0 for C1, QUEUED behind it for C5, DEFERRED on CH1 for C2, CLOSED on CH2 for C6; one command
waits. -/
def busy : State :=
  holding 3 { grantOf (.closed .expired) 6 2 1 with leaseRemaining := some 0, notices := { Notices.empty with closed := true } }
    (holding 2 { grantOf .deferred 2 1 4 with notices := { Notices.empty with shed := true } }
      (holding 1 (grantOf .queued 5 0 2) (holding 0 (grantOf (.active 0 10) 1 0 5) { roomy with pending := [.frameStart] })))

/-- The first grant has a lease of which 1 remains. -/
def expiring : State := holding 0 { grantOf (.active 0 10) 1 0 5 with leaseRemaining := some 1 } roomy

/-- Every slot holds a CLOSED grant. -/
def full : State :=
  roomy.withCtl { roomy.ctl with table := Vector.replicate 32 ⟨0, some (grantOf (.closed .revoked) 1 0 0)⟩ }

/-- A frame cut into parts too short for 12 segments: reservations of 10 at 0, 20 and 40, current 200 under a peak of 250. -/
def fragmented : State :=
  holding 2 (grantOf (.active 40 10) 5 2 3) (holding 1 (grantOf (.active 20 10) 6 1 3) (holding 0 (grantOf (.active 0 10) 2 0 5)
    (inRun 250 16000 [(200, 0), (200, 20), (200, 40), (200, 12)])))

/-! ## Hypotheses over every slot -/

theorem noHolder_of {c : Controller} {ch : Channel}
    (h : ∀ i : SlotIx, ∀ g ∈ c.grantAt i, g.holds = true → g.channel ≠ ch) : NoHolder c ch := fun i g hg => h i g hg

theorem only_holder_of {c : Controller} {ch : Channel} {j : SlotIx}
    (h : ∀ k : SlotIx, ∀ g ∈ c.grantAt k, g.holds = true → g.channel = ch → k = j) :
    ∀ k gk, c.grantAt k = some gk → gk.holds = true → gk.channel = ch → k = j := fun k g hg => h k g hg

theorem passes_of {s : State} {p : Port} {client : Byte} {payload : List Byte} {who : Client} {a : GrantArgs}
    (hs : Takes s p client 0x01 payload ∧ clientOnPort p client = some who ∧ requestRefusal who 0x01 payload = none)
    (hr : s.config.mode = .run ∧ readGrant payload = some a ∧ s.config.profiles[a.channel].enabled = true ∧
      s.engine[a.channel].fault = .ok ∧ a.duty ≤ s.config.profiles[a.channel].maxDuty)
    (hl : ∀ i : SlotIx, ∀ g ∈ s.ctl.grantAt i, g.isLiving = true → g.owner = who → g.channel ≠ a.channel)
    (hf : s.ctl.inFlight = false) : GrantPasses s p client payload who a :=
  ⟨hs, hr.1, hr.2.1, hr.2.2.1, hr.2.2.2.1, hr.2.2.2.2, fun i g hg => hl i g hg, hf⟩

/-! ## The spec's numbers -/

/-- Section 2.2 and 2.7: footprints of 700, 1500, 300 and 100, and of the ends of the range. -/
theorem test_footprints : [0, 1, 32, 33, 100, 300, 700, 1500, 2048].map footprint = [0, 1, 1, 2, 4, 10, 22, 47, 64] := by
  decide +kernel

/-- Section 1.10: slot 5 in generations 0, 1, 2. -/
theorem test_handles : handleValue 5 0 = 5 ∧ handleValue 5 1 = 37 ∧ handleValue 5 2 = 69 := by decide +kernel

/-- The published check value of the CRC-8 of R188, x^8 + x^2 + x + 1 from all ones, over the ASCII digits 1 to 9. -/
theorem test_check_byte : checkByte (bytes [49, 50, 51, 52, 53, 54, 55, 56, 57]) = 0xFB := by decide +kernel

/-- Section 1.11: c3 enters behind d3, then e6 at the head of b5, d3, c3 (slots 4, 1, 3, 2; e is slot 5). -/
theorem test_insertion : insertByPriority (fun i => if i = 5 then 6 else if i = 4 then 5 else 3) 2 3 [4, 1] = [4, 1, 2] ∧
    insertByPriority (fun i => if i = 5 then 6 else if i = 4 then 5 else 3) 5 6 [4, 1, 2] = [5, 4, 1, 2] := by
  decide +kernel

/-- The map of section 2.7: CH0 at 0..21 with 100, CH1 at 4..50 with 60, CH2 at 58..3 with 150. -/
def threeRuns : State :=
  holding 2 (grantOf (.active 58 10) 5 2 3) (holding 1 (grantOf (.active 4 47) 2 1 3) (holding 0 (grantOf (.active 0 22) 2 0 5)
    (inRun 1000 32000 [(100, 0), (60, 4), (150, 58)])))

/-- Section 2.7: entries 0, 3, 21, 53 and 62, and the total charge. -/
theorem test_load_map : threeRuns.ctl.loadMap[0] = 250 ∧ threeRuns.ctl.loadMap[3] = 250 ∧ threeRuns.ctl.loadMap[21] = 160 ∧
    threeRuns.ctl.loadMap[53] = 0 ∧ threeRuns.ctl.loadMap[62] = 150 ∧ threeRuns.ctl.totalCharge = 6520 := by decide +kernel

/-- Section 2.7: the room tests of the table, at TIER0 and at the default TIER2 ceilings. -/
theorem test_room_tests :
    let m := threeRuns.ctl.loadMap
    fits m 6520 1000 32000 200 51 7 = true ∧ fits m 6520 250 8000 200 51 7 = true ∧
    fits m 6520 1000 32000 10 0 4 = true ∧ fits m 6520 250 8000 10 0 4 = false ∧
    fits m 6520 1000 32000 150 51 13 = true ∧ fits m 6520 250 8000 150 51 13 = false ∧
    fits m 6520 250 8000 250 30 0 = true := by decide +kernel

/-- Section 2.7: MAP_READ of eight segments from 60. -/
theorem test_map_read : result .a (served .a 1 0x12 [60, 8] threeRuns) =
    some (.ok, [60, 8, 0, 3, 232, 0, 125, 0, 0, 25, 120, 0, 0, 150, 1, 0, 150, 1, 0, 150, 1, 0, 150, 1, 0, 250, 2, 0, 250, 2,
      0, 250, 2, 0, 250, 2]) := by decide +kernel

/-- Section 2.7: the ramp down to 100 complete, CH2 keeps 58..61 and the charge falls to 5620. -/
theorem test_shrink :
    let s := threeRuns.withCtl (threeRuns.ctl.putGrant 2
      { grantOf (.active 58 10) 5 2 3 with presentDuty := 100, targetDuty := 100 })
    let t := after (.rampComplete 2 100) { s with events := { s.events with rampCompletes := [⟨2, 100⟩] } }
    t.ctl.totalCharge = 5620 ∧ t.ctl.loadMap[63] = 0 ∧ t.ctl.loadMap[3] = 100 ∧ t.portB.alertLow = true := by decide +kernel

/-- Section 10.9: the port state byte IN_FLIGHT and ACCEPTED, IN_FLIGHT and BUSY, READY and BUSY. -/
theorem test_port_state_bytes :
    ({ PortUnit.reset with state := .inFlight, verdict := some .accepted } : PortUnit).stateByte = 0x85 ∧
    ({ PortUnit.reset with state := .inFlight, verdict := some .busy } : PortUnit).stateByte = 0x89 ∧
    ({ PortUnit.reset with state := .ready, verdict := some .busy } : PortUnit).stateByte = 0x8A := by decide +kernel

/-- Section 10.9: a REQUEST while IN_FLIGHT gets the verdict byte 0x82 after its check byte. -/
theorem test_busy_verdict :
    (after (.requestTransaction (requestFrame 3 0x10 [0, 0] ++ [0])) { roomy with
      portA := { PortUnit.reset with state := .inFlight, request := some ⟨⟨1, 1, []⟩, .taken⟩ } }).portA.wire.bytes =
    List.replicate 7 0xFF ++ [0x82] := by decide +kernel

/-- Section 10.9: the 14 bytes of the GRANT's response follow the state byte, and the port is IDLE. -/
theorem test_read_delivers :
    let s := served .a 1 0x01 [1, 4, 2, 0, 0, 0, 0, 0] roomy
    (after (.readTransaction 14) s).portA.state = .ready ∧ (after (.readTransaction 15) s).portA.state = .idle ∧
    (after (.readTransaction 15) s).portA.wire.bytes.take 5 = [0xFF, 0x82, 12, 1, 1] := by decide +kernel

/-- R191 and section 0.5: the four addresses of Port B. -/
theorem test_addresses : [latchedAddress false false, latchedAddress false true, latchedAddress true false,
    latchedAddress true true] = [0x2C, 0x2D, 0x2E, 0x2F] := by decide +kernel

/-- Section 4.7: a GRANT of 16 segments on CH3 starts a repack, whose plan puts it at its home 12 and moves the grant of CH1 to
28. -/
theorem test_repack_started_by_grant :
    let s := served .a 1 0x01 [3, 4, 2, 0, 0, 0, 0, 4] fragmented
    s.portA.state = .inFlight ∧ s.ctl.planSerial = 1 ∧ s.ctl.repack = .planning ∧
    s.planner.plan.map (fun l => l.map fun q => (q.entry.channel.val, q.start.val)) =
      some [(3, 12), (0, 0), (1, 28), (2, 40)] := by decide +kernel

/-- The frame of section 11.4, with P's ramp under way. -/
def overtaken : State :=
  let s := holding 2 { grantOf (.active 36 12) 5 2 2 with presentDuty := 384, targetDuty := 384 }
    (holding 1 { grantOf (.active 20 12) 6 1 3 with presentDuty := 384, targetDuty := 384 }
      (holding 0 { grantOf (.active 0 12) 2 0 4 with presentDuty := 384, targetDuty := 192, rampRate := 192 }
        (inRun 250 16000 [(200, 0), (200, 20), (200, 36)])))
  served .b 6 0x02 [0, 1, 2, 128, 0, 128, 4] (s.withCtl { s.ctl with planSerial := 7 })

/-- Section 11.4: the plan is Q at 20, P at 0, S at 40, with a working charge of 8800 and serial 8. -/
theorem test_repack_started_by_adjust :
    overtaken.portB.state = .inFlight ∧ overtaken.ctl.planSerial = 8 ∧ overtaken.planner.workCharge = 8800 ∧
    overtaken.planner.plan.map (fun l => l.map fun q => (q.entry.channel.val, q.start.val)) =
      some [(1, 20), (0, 0), (2, 40)] := by decide +kernel

/-- The frame of section 11.4 when the plan is to be applied: P has shrunk to its 6 segments. -/
def overtakenPending : State :=
  { overtaken.withCtl { (overtaken.ctl.putGrant 0 { grantOf (.active 0 12) 2 0 4 with
      presentDuty := 192, targetDuty := 192, rampRate := 192 }).resize overtaken.config.profiles 0 6 with
        repack := .applyPending } with events := { Events.reset with engineFrames := 1, controllerFrames := 1 } }

/-- Section 11.4: P keeps its shrunk 6, Q has 20 at 20, S stands at 40, and C6 is answered OK. -/
theorem test_repack_applied :
    let t := after .repackApply overtakenPending
    overtakenPending.ctl.totalCharge = 6000 ∧
    [0, 1, 2].map (fun i => (t.ctl.grantAt i).map Grant.state) =
      [some (.active 0 6), some (.active 20 20), some (.active 40 12)] ∧ t.ctl.totalCharge = 7600 ∧
    result .b t = some (.ok, [0, 1, 1, 2, 128, 1, 128, 128, 0, 20, 20]) := by decide +kernel

/-- Section 11.4: the capture taken first shows the old placement, steps 640 to 1023 for Q and 1152 to 1535 for S. -/
theorem test_captured_windows :
    let t := after .engineFrameStart overtakenPending
    t.engine[0].window = some ⟨0, 192⟩ ∧ t.engine[1].window = some ⟨640, 384⟩ ∧ t.engine[2].window = some ⟨1152, 384⟩ := by
  decide +kernel

/-- Section 11.5: RENEW before the tick leaves 3, the tick before the RENEW closes the grant and answers CLOSED. -/
theorem test_renew_against_expiry :
    let s := { expiring with events := { expiring.events with leaseTicks := 1 } }
    ((after .leaseTick (served .a 1 0x03 [0, 0] s)).ctl.grantAt 0).bind Grant.leaseRemaining = some 3 ∧
    result .a (served .a 1 0x03 [0, 0] (after .leaseTick s)) = some (.closed .expired, []) := by decide +kernel

/-- R14, R121: a released slot's handle is stale and the next grant has the next generation. -/
theorem test_release_then_stale :
    let s := served .a 1 0x04 [0, 0] expiring
    s.ctl.table[0] = ⟨1, none⟩ ∧ s.ctl.totalCharge = 0 ∧ result .a (served .a 1 0x03 [0, 0] s) = some (.stale, []) ∧
    result .a (served .a 1 0x01 [0, 5, 1, 64, 0, 0, 0, 0] s) = some (.ok, [0, 32, 1, 0, 10, 255, 255, 255]) := by
  decide +kernel

/-- R125, R116: a revoked grant is CLOSED/REVOKED, and the ACK that names CLOSED frees its slot. -/
theorem test_revoke_and_ack :
    let s := served .a 0 0x06 [0, 0] expiring
    result .a s = some (.ok, [0, 0, 4, 3]) ∧ s.portA.alertLow = true ∧
    result .a (served .a 1 0x05 [0, 0, 16] s) = some (.ok, [0, 0, 1, 0, 0]) ∧
    (served .a 1 0x05 [0, 0, 16] s).portA.alertLow = false := by decide +kernel

/-- R56, R58: a held channel queues with wait set and is refused with the holder's handle and priority without. -/
theorem test_held_channel :
    result .a (served .a 3 0x01 [0, 5, 1, 64, 0, 0, 0, 2] expiring) = some (.queued, [0, 1, 3, 255, 255, 1, 0, 0]) ∧
    result .a (served .a 3 0x01 [0, 5, 1, 64, 0, 0, 0, 0] expiring) = some (.channelHeld, [0, 0, 5]) := by decide +kernel

/-- R65, R66: a preempting GRANT of higher priority takes the channel, and the holder is QUEUED with notice PREEMPTED. -/
theorem test_preemption :
    let s := served .a 3 0x01 [0, 6, 1, 64, 0, 0, 0, 1] expiring
    result .a s = some (.ok, [0, 1, 1, 0, 10, 255, 255, 255]) ∧ s.ctl.waiting = [0] ∧ s.ctl.admission = [1] ∧
    (s.ctl.grantAt 0).map (fun g => (g.state, g.notices.preempted)) = some (.queued, true) := by decide +kernel

/-- R121, R74, R76: C1's release lets the pass take C2's DEFERRED grant's neighbour: the QUEUED grant of CH0 is next. -/
theorem test_retry_pass :
    let s := served .a 1 0x04 [0, 0] busy
    s.ctl.waiting = [] ∧ s.ctl.admission = [2, 1] ∧ (s.ctl.grantAt 1).map (fun g => g.notices.admitted) = some true := by
  decide +kernel

/-- R128: dropping C1 frees its one slot; another client but C0 may not. -/
theorem test_drop_client : result .a (served .a 1 0x07 [1] busy) = some (.ok, [1, 1]) ∧
    result .a (served .a 2 0x07 [1] busy) = some (.notPermitted, []) := by decide +kernel

/-- R29: C1's grant and its state in a LIST of two bytes an entry. -/
theorem test_list : result .a (served .a 1 0x11 [1] busy) = some (.okListed 1, [0, 16]) := by decide +kernel

/-- R26: the QUERY of the QUEUED grant shows place 2 and the holder's handle. -/
theorem test_query : (result .a (served .a 1 0x10 [0, 1] busy)).map (fun x => x.2.drop 18) =
    some [255, 2, 255, 0, 0] := by decide +kernel

/-- R177, R179: the reset profile of CH15. -/
theorem test_get_profile : result .a (served .a 1 0x14 [15] State.reset) = some (.ok, [15, 0, 1, 8, 0, 60, 0]) := by
  decide +kernel

/-- R178: a profile written is read back; R199: a flag bit without a name is BAD_ARG. -/
theorem test_set_profile :
    result .a (served .a 1 0x14 [2] (served .a 0 0x20 [2, 0x1F, 250, 4, 0, 63, 255] State.reset)) =
      some (.ok, [2, 0x1F, 250, 4, 0, 63, 255]) ∧
    result .a (served .a 0 0x20 [2, 0x20, 250, 4, 0, 63, 255] State.reset) = some (.badArg, []) := by decide +kernel

/-- R180, R44: SET_TIERS reloads the ceilings in force. -/
theorem test_set_tiers :
    result .a (served .a 0 0x21 [1, 44, 0, 78, 32, 1, 44, 0, 33, 52, 0, 200, 0, 15, 160] State.reset) =
      some (.ok, [0, 1, 44, 0, 78, 32]) := by decide +kernel

/-- R181: the thresholds must fall strictly. -/
theorem test_set_monitor :
    result .a (served .a 0 0x22 [1, 48, 40, 32, 2, 3, 1, 244, 0, 0] State.reset) = some (.ok, [0]) ∧
    result .a (served .a 0 0x22 [1, 48, 48, 32, 2, 3, 1, 244, 0, 0] State.reset) = some (.badArg, []) := by decide +kernel

/-- R182: SET_FRAME restarts the timer. -/
theorem test_set_frame :
    let s := served .a 0 0x23 [64, 7] (after .frameStart State.reset)
    s.config.divider = 64 ∧ s.timer.frameCount = 0 ∧ result .a (served .a 0 0x23 [65, 7] s) = some (.badArg, []) := by
  decide +kernel

/-- R171: START without an enabled channel, and in RUN. -/
theorem test_start : result .a (served .a 0 0x28 [] State.reset) = some (.badConfigNoChannel, []) ∧
    result .a (served .a 0 0x28 [] roomy) = some (.wrongMode, []) := by decide +kernel

/-- R173: STOP frees the four slots of the busy part and counts them. -/
theorem test_stop : result .a (served .a 0 0x29 [] busy) = some (.ok, [4]) ∧
    (served .a 0 0x29 [] busy).ctl.table[3] = ⟨1, none⟩ := by decide +kernel

/-- R175: CLEAR keeps the plan serial and the generations. -/
theorem test_clear : (served .a 0 0x2A [] overtaken).ctl.planSerial = 8 ∧
    result .b (served .a 0 0x2A [] overtaken) = some (.wrongMode, []) ∧
    (served .a 0 0x2A [] overtaken).ctl.table[0] = ⟨1, none⟩ := by decide +kernel

/-- R183: STATUS counts 28 FREE slots and one in each of the four states. -/
theorem test_status : (result .a (served .a 1 0x13 [] busy)).map (fun x => x.2.take 10) =
    some [1, 8, 4, 0, 0, 28, 1, 1, 1, 1] := by decide +kernel

/-- R194: the common checks. -/
theorem test_common_checks :
    result .a (served .a 4 0x13 [] roomy) = some (.badClient, []) ∧
    result .a (served .a 1 0x30 [] roomy) = some (.unknownRequest, []) ∧
    result .a (served .a 1 0x29 [] roomy) = some (.notPermitted, []) ∧
    result .a (served .a 1 0x13 [0] roomy) = some (.badArg, []) := by decide +kernel

/-- R190: an unknown kind is FRAME_ERROR and returns 0xFF alone. -/
theorem test_unknown_kind : (after (.unknownTransactionKind 0x55 2) roomy).portA.verdict = some .frameError ∧
    (after (.unknownTransactionKind 0x55 2) roomy).portA.wire.bytes = [0xFF, 0xFF, 0xFF] := by decide +kernel

/-- R191: a sound frame on Port B is acknowledged to its end, an excess byte is not. -/
theorem test_i2c_write :
    (after (.i2cWriteTransaction 0x2C (requestFrame 5 0x13 [])) roomy).portB.wire.acks = List.replicate 5 true ∧
    (after (.i2cWriteTransaction 0x2C (requestFrame 5 0x13 [] ++ [0])) roomy).portB.verdict = some .frameError := by
  decide +kernel

/-- R192: a read of a port without a response sends its state byte and 0xFF. -/
theorem test_i2c_read : (after (.i2cReadTransaction 0x2C 3) roomy).portB.wire = ⟨[true], [0x80, 0xFF, 0xFF]⟩ := by
  decide +kernel

/-- R152, R153: the step counter passes from 2047 to 0 and the sixteenth frame brings a lease tick at L = 4. -/
theorem test_frame_boundary :
    let s := { State.reset with timer := { step := 2047, frameCount := 15 } }
    (after .stepCounterAdvance s).timer = { step := 0, frameCount := 16 } ∧ (after .frameStart s).events.leaseTicks = 1 ∧
    (after .frameStart State.reset).events.leaseTicks = 0 := by decide +kernel

/-- Section 11.6: an open-drain, active-low channel without a window reads low at step 1024 while commanded high. -/
def heldLine : State :=
  let s := { State.reset with
    config := { Configuration.reset with
      profiles := Vector.ofFn fun ch =>
        { Profile.reset ch with enabled := true, drive := .openDrain, polarity := .activeLow, readback := true } }
    engine := Vector.replicate 16 { ChannelUnit.reset with mismatches := 2 }
    timer := { step := 1024, frameCount := 0 } }
  after (.readbackSample 11 false) s

/-- Section 11.6: the mismatch of the third frame makes CH11 FAULTED with count 3, and CLEAR_FAULT reports both. -/
theorem test_channel_becomes_faulted :
    let s := after (.channelBecomesFaulted 11) (after .frameStart heldLine)
    heldLine.engine[11].outside = .mismatched ∧ s.engine[11].fault = .faulted ∧ s.events.channelFaults = [11] ∧
    result .a (served .a 0 0x18 [11] s) = some (.ok, [11, 1, 3]) := by decide +kernel

/-- The line of section 11.6 at the last step of a frame, its mismatched sample taken. -/
def atFrameEnd (count : Fin 65536) : State := { heldLine with timer := { step := 2047, frameCount := count } }

/-- R184: where the engine takes the frame start first, STATUS shows the new mismatch count with the old frame count, and the next
step brings the count; where the timer's boundary is first, the old mismatch count with the new frame count. -/
theorem test_status_at_a_frame_start :
    let early := after .engineFrameStart (atFrameEnd 7)
    let late := after .frameStart (atFrameEnd 7)
    let shown (s : State) := (result .a (served .a 1 0x13 [] s)).map fun x => (x.2.drop 3 |>.take 2, x.2[29]?)
    shown early = some ([0, 7], some 0x83) ∧ shown late = some ([0, 8], some 2) ∧
    (after .stepCounterAdvance early).timer = { step := 1, frameCount := 8 } ∧ early.events.supplyFrames = 1 := by
  decide +kernel

/-- R165: a channel fault closes the holder and the grant queued behind it. -/
theorem test_channel_fault :
    let s := after (.channelFault 0) { busy with events := { busy.events with channelFaults := [0] } }
    (s.ctl.grantAt 0).map Grant.state = some (.closed .channelFault) ∧
    (s.ctl.grantAt 1).map Grant.state = some (.closed .channelFault) ∧ s.events.channelFaults = [] := by decide +kernel

/-- SENSE at a ladder code at every comparison (R133). -/
def senseAt (code : Nat) : SenseReading := ⟨code * 18750, code * 18750, code * 18750, code * 18750⟩

/-- The supply tier unit with its default thresholds, enabled, at this tier and these counters, a frame start raised. -/
def monitored (tier : Tier) (down up : Nat) : State :=
  { roomy with
    config := { roomy.config with monitor := { Monitor.reset with enabled := true } }
    supply := { TierUnit.reset with supplyTier := tier, down := down, up := up, effective := tier }
    events := { Events.reset with supplyFrames := 1 } }

/-- R133: SENSE at the reference of T2 is not below it: band 1; one microvolt lower is band 2. -/
theorem test_sample_band : (after (.sample (senseAt 40) ⟨false, false⟩) (monitored 0 0 0)).supply.band = 1 ∧
    (after (.sample ⟨0, 40 * 18750 - 1, 40 * 18750 - 1, 0⟩ ⟨false, false⟩) (monitored 0 0 0)).supply.band = 2 := by
  decide +kernel

/-- R135: the third down frame makes its own band the supply tier and raises a tier change. -/
theorem test_down_debounce :
    let s := after (.downDebounce (senseAt 36) ⟨false, false⟩) (monitored 0 2 0)
    s.supply.supplyTier = 2 ∧ s.supply.down = 0 ∧ s.events.tierChanges = 1 ∧
    after (.downDebounce (senseAt 36) ⟨false, false⟩) (monitored 0 1 0) = monitored 0 1 0 := by decide +kernel

/-- R136: the 500th up frame at T2 + hysteresis, code 42, lowers TIER2 to TIER1. -/
theorem test_up_hold_off :
    let s := after (.upHoldOff (senseAt 42) ⟨false, false⟩) (monitored 2 0 499)
    s.supply.supplyTier = 1 ∧ s.supply.up = 0 ∧ s.events.tierChanges = 1 := by decide +kernel

/-- R143 to R145: a drop to TIER2's charge of 500 sheds the one ACTIVE grant to DEFERRED behind the other two that wait. -/
theorem test_tier_change_sheds :
    let s := after .tierChange { busy with
      config := { busy.config with tiers := { busy.config.tiers with tier2 := ⟨200, 500⟩ } }
      supply := { busy.supply with effective := 2 }, events := { busy.events with tierChanges := 1 } }
    s.ctl.tierInForce = 2 ∧ s.ctl.totalCharge = 0 ∧ s.ctl.waiting = [0, 2, 1] ∧
    (s.ctl.grantAt 0).map (fun g => (g.state, g.notices.shed)) = some (.deferred, true) := by decide +kernel

/-- R116: LEASE_EXPIRY is the tick that closes the grant; it is nothing at a slot whose lease goes on. -/
theorem test_lease_expiry :
    let s := { expiring with events := { expiring.events with leaseTicks := 1 } }
    ((after (.leaseExpiry 0) s).ctl.grantAt 0).map Grant.state = some (.closed .expired) ∧ after (.leaseExpiry 1) s = s := by
  decide +kernel

/-- R85, R86: a plan failed of another serial is ignored, its own ends the repack with NO_ROOM. -/
theorem test_plan_failed :
    let s := { overtaken with events := { overtaken.events with planEvents := [⟨false, 7⟩, ⟨false, 8⟩] } }
    (after (.planFailed 7) s).ctl.repack = .planning ∧
    result .b (after (.planFailed 8) s) = some (.noRoom .repackFailed, []) := by decide +kernel

/-- R185: while RESET_N is low every pin is low and no frame is taken; the end latches the address. -/
theorem test_hard_reset :
    let s := after .hardReset busy
    s.pin 0 = .low ∧ after (.requestTransaction (requestFrame 1 0x13 [])) s = s ∧
    (after (.resetEnd true false false false) s).addressB = 0x2E := by decide +kernel

/-! ## States that meet the statements' hypotheses -/

/-- Arguments of a GRANT payload. -/
def grantArgs (payload : List Nat) : GrantArgs :=
  (readGrant (bytes payload)).getD ⟨0, 0, 0, .steps 0, 0, false, false, false, false⟩

/-- Arguments of an ADJUST payload. -/
def adjustArgs (payload : List Nat) : AdjustArgs := (readAdjust (bytes payload)).getD ⟨0, 0, .steps 0, false, false⟩

/-- The busy part with a lease tick, a sample, a frame start of each kind, a ramp complete and a channel fault raised. -/
def eventful : State :=
  { busy with events := { engineFrames := 1, supplyFrames := 1, controllerFrames := 1, leaseTicks := 1, tierChanges := 1,
                          rampCompletes := [⟨0, 320⟩], channelFaults := [0], planEvents := [] } }

/-- TIER3 in force in RUN: CH0's holder is DEFERRED. -/
def tierThree : State :=
  holding 0 (grantOf .deferred 1 0 5)
    { roomy with
      pending := [.frameStart]
      supply := { TierUnit.reset with supplyTier := 3, effective := 3 }
      ctl := { roomy.ctl with tierInForce := 3, peakInForce := 0, chargeInForce := 0 } }

/-- The busy part with no charge to spare. -/
def chargeless : State := busy.withCtl { busy.ctl with chargeInForce := 1000 }

/-- A repack in flight for an ADJUST of the grant of C6, on Port B. -/
def repacking : State := served .b 6 0x02 [0, 1, 4, 0, 0, 16, 4] fragmented

/-- A repack in flight for a GRANT of C1 on CH3, on Port A. -/
def granting : State := served .a 1 0x01 [3, 4, 2, 0, 0, 0, 0, 4] fragmented

theorem served_of {s : State} {p : Port} {client code : Byte} {payload : List Byte} {who : Client}
    (h : s.takes p ⟨client, code, payload⟩ = true ∧ clientOnPort p client = some who ∧
      requestRefusal who code payload = none) : Served s p client code payload who := h

theorem witness_StepTakesFrontCommand :
    ({ busy with pending := [.frameStart, .leaseTick] } : State).pending = .frameStart :: [.leaseTick] ∧ roomy.pending = [] := by
  decide +kernel

/-- Each state in which an invariant is shown below takes a step. -/
theorem witness_step : (∃ t, step busy = .next t) ∧ ∃ t, step tierThree = .next t :=
  ⟨⟨{ busy.frameBoundary with pending := [] }, rfl⟩, ⟨{ tierThree.frameBoundary with pending := [] }, rfl⟩⟩

theorem witness_StatePairingsKept :
    PortsConsistent busy ∧ FaultPairing busy ∧ ConfigEmpty busy ∧ ConfigEmpty State.reset := by
  unfold PortsConsistent portConsistent FaultPairing ConfigEmpty; decide +kernel

theorem witness_ListsKept : ListsExact busy.ctl ∧ ListsExact fragmented.ctl := by unfold ListsExact; decide +kernel

theorem witness_AlertsKept : AlertsExact busy ∧ busy.portA.alertLow = true ∧ busy.portB.alertLow = true := by
  unfold AlertsExact; decide +kernel

/-- No repack is in flight, so the clauses about a held GRANT say nothing. -/
theorem no_held {c : Controller} (h : c.inFlight = false) (client : Client) (ch : Channel) : ¬ grantHeldFor c client ch :=
  fun g => by have f := g.1; rw [h] at f; exact Bool.noConfusion f

theorem witness_HoldersKept : OneHolder busy.ctl ∧ OneLivingPerClient busy.ctl := by
  have one : ∀ i j : SlotIx, ∀ gi ∈ busy.ctl.grantAt i, ∀ gj ∈ busy.ctl.grantAt j, gi.holds = true → gj.holds = true →
      gi.channel = gj.channel → i = j := by decide +kernel
  have living : ∀ i j : SlotIx, ∀ gi ∈ busy.ctl.grantAt i, ∀ gj ∈ busy.ctl.grantAt j, gi.isLiving = true →
      gj.isLiving = true → gi.owner = gj.owner → gi.channel = gj.channel → i = j := by decide +kernel
  have idle : busy.ctl.inFlight = false := by decide +kernel
  exact ⟨⟨fun i j gi gj hi hj => one i j gi hi gj hj, fun c ch h => absurd h (no_held idle c ch)⟩,
    ⟨fun i j gi gj hi hj => living i j gi hi gj hj, fun c ch h => absurd h (no_held idle c ch)⟩⟩

theorem witness_TierThreeKeptEmpty : ListsExact tierThree.ctl ∧ ConfigEmpty tierThree ∧ Tier3Empty tierThree ∧
    tierThree.config.mode = .run ∧ tierThree.ctl.tierInForce = 3 := by
  unfold ListsExact ConfigEmpty Tier3Empty; decide +kernel

theorem busy_roomExact : RoomExact busy := by
  have ranges : ∀ i : SlotIx, ∀ g ∈ busy.ctl.grantAt i, g.targetDuty ≤ 2048 ∧ g.presentDuty ≤ 2048 ∧ g.room ≤ 64 := by
    decide +kernel
  have idle : busy.ctl.inFlight = false := by decide +kernel
  refine ⟨by unfold ConfigEmpty; decide +kernel, ⟨fun i g h => ranges i g h, fun h => ?_⟩, by unfold MapExact; decide +kernel⟩
  rw [idle] at h; exact Bool.noConfusion h

theorem witness_RoomAccountKept : RoomExact busy ∧ busy.ctl.totalCharge = 1000 := ⟨busy_roomExact, by decide +kernel⟩

theorem witness_ReservationBoundKept : ReservationBound busy := by
  have bound : ∀ i : SlotIx, ∀ g ∈ busy.ctl.grantAt i, g.targetDuty ≤ busy.config.profiles[g.channel].maxDuty ∧
      g.presentDuty ≤ busy.config.profiles[g.channel].maxDuty ∧
      (g.isActive = true → footprint g.presentDuty ≤ g.room ∧ footprint g.targetDuty ≤ g.room) := by decide +kernel
  have idle : busy.ctl.inFlight = false := by decide +kernel
  refine ⟨by unfold ConfigEmpty; decide +kernel, fun h => ?_, fun i g h => bound i g h⟩
  rw [idle] at h; exact Bool.noConfusion h

/-- The part with this slot's channel pinned at its home. -/
def pinning (ch : Channel) (s : State) : State :=
  { s with config := { s.config with profiles := s.config.profiles.set ch { s.config.profiles[ch] with pinned := true } } }

/-- The busy part with CH0 pinned, and the repack of an ADJUST of the grant of CH1 with CH1 pinned. -/
theorem witness_ReservationBoundKept_pinned : PinnedHome (pinning 0 busy) ∧
    (pinning 0 busy).config.profiles[0].pinned = true ∧ PinnedHome (pinning 1 repacking) ∧ repacking.ctl.inFlight = true ∧
    (repacking.planner.plan.map fun l => l.map fun q => (q.entry.slot, q.start)) =
      some [(some 1, 20), (some 0, 0), (some 2, 52)] := by
  have home : ∀ s ∈ [pinning 0 busy, pinning 1 repacking], ∀ i : SlotIx, ∀ g ∈ s.ctl.grantAt i,
      ((match g.state with | .active start _ => some start | _ => none).all fun start =>
        !s.config.profiles[g.channel].pinned || start == s.config.profiles[g.channel].home) = true := by decide +kernel
  have starts : ∀ s ∈ [pinning 0 busy, pinning 1 repacking], ∀ (i : SlotIx) (g : Grant) (start : Segment) (r : Nat),
      s.ctl.grantAt i = some g → g.state = .active start r → s.config.profiles[g.channel].pinned = true →
      start = s.config.profiles[g.channel].home := by
    intro s hs i g start r hg ha hp
    have h := home s hs i g hg
    rw [ha] at h
    simp only [Option.all_some, Bool.or_eq_true, Bool.not_eq_true', beq_iff_eq] at h
    exact h.resolve_left fun e => Bool.noConfusion (e.symm.trans hp)
  have idle : (pinning 0 busy).ctl.inFlight = false := by decide +kernel
  have adjust : ∀ h ∈ (pinning 1 repacking).ctl.held, h.kind = .adjust 1 1024 := by decide +kernel
  have moved : ∀ plan ∈ (pinning 1 repacking).planner.plan, ∀ q ∈ plan, ∀ i : SlotIx, q.entry.slot = some i →
      ∀ g ∈ (pinning 1 repacking).ctl.grantAt i, (pinning 1 repacking).config.profiles[g.channel].pinned = true →
      q.start = (pinning 1 repacking).config.profiles[g.channel].home := by decide +kernel
  refine ⟨⟨by unfold ConfigEmpty; decide +kernel, starts _ (by simp), fun h => ?_⟩, by decide +kernel,
    ⟨by unfold ConfigEmpty; decide +kernel, starts _ (by simp), fun _ h plan hh hp q hq => ⟨?_, ?_⟩⟩, by decide +kernel,
    by decide +kernel⟩
  · rw [idle] at h; exact Bool.noConfusion h
  · exact fun i g hi hg _ => moved plan hp q hq i hi g hg
  · intro _ ch prio duty lease hk
    rw [adjust h hh] at hk; cases hk

theorem witness_CeilingsKeptByEveryStep : CeilingsHeld busy := by
  have idle : busy.ctl.inFlight = false := by decide +kernel
  refine ⟨busy_roomExact, by unfold ListsExact; decide +kernel, by unfold CeilingsLoaded; decide +kernel,
    by unfold TiersDescend; decide +kernel, fun h => ?_, by unfold WithinCeilings; decide +kernel⟩
  rw [idle] at h; exact Bool.noConfusion h

theorem witness_GenerationsAdvanceOnFreeing : ∃ t, exec .leaseTick busy = .next t := ⟨_, rfl⟩

theorem witness_RequestFramesRoundTrip : (List.replicate 24 (0 : Byte)).length ≤ 24 ∧ ([0] : List Byte) ≠ [] ∧
    27 < (List.replicate 24 (0 : Byte)).length + 4 ∧ (0x00 : Byte) ≠ checkByte (BitVec.ofNat 8 (2 + 0) :: 1 :: 0x13 :: []) ∧
    (1 : Byte).toNat < 2 ∧ 26 < (27 : Byte).toNat := by decide +kernel

theorem witness_PayloadsReadAsLaidOut : 1 ≤ (profile 250 63).current ∧ (profile 250 63).current ≤ 250 ∧
    1 ≤ (profile 250 63).maxDuty ∧ (profile 250 63).maxDuty ≤ 2048 ∧ (profile 250 63).defaultRamp ≤ 255 ∧
    (readAdjust (bytes [1, 255, 8, 0, 1, 0, 12])).isSome = true ∧ readAdjust (bytes [1, 255, 8, 0, 1, 0, 13]) = none ∧
    readAck (bytes [2, 0, 0]) = none ∧ readAck (bytes [1, 255, 32]) = none ∧
    (readMonitor (bytes [7, 63, 2, 1, 7, 15, 15, 255, 3, 3])).isSome = true ∧
    readMonitor (bytes [8, 63, 2, 1, 7, 15, 15, 255, 3, 3]) = none ∧
    readMonitor (bytes [7, 63, 2, 1, 7, 15, 16, 0, 3, 3]) = none := by decide +kernel

theorem witness_SoundFramesAccepted : roomy.inReset = false ∧ roomy.portA.ignoring = false ∧ roomy.portB.ignoring = false ∧
    roomy.portA.state ≠ .inFlight ∧ roomy.portB.state ≠ .inFlight := by decide +kernel

theorem witness_PortsRefuseFrames : granting.inReset = false ∧ granting.portA.ignoring = false ∧
    granting.portA.state = .inFlight ∧ repacking.portB.ignoring = false ∧ repacking.portB.state = .inFlight ∧
    (0x2D : BitVec 7) ≠ roomy.addressB ∧ (0x3D : Byte) ≠ 0x3C ∧ (0x3D : Byte) ≠ 0xC3 := by decide +kernel

theorem witness_ReadsDeliverResponses :
    (∃ r, (served .a 1 0x13 [] roomy).portA.state = .ready ∧ (served .a 1 0x13 [] roomy).portA.response = some r) ∧
    ∃ r, (served .b 5 0x13 [] roomy).portB.state = .ready ∧ (served .b 5 0x13 [] roomy).portB.response = some r :=
  ⟨⟨_, by decide +kernel, rfl⟩, ⟨_, by decide +kernel, rfl⟩⟩

theorem witness_ArbiterTakesInTurn :
    Takes (ask .b 5 0x13 [] (ask .a 1 0x13 [] roomy)) .a 1 0x13 (bytes []) ∧
    ¬ Takes (ask .b 5 0x13 [] (ask .a 1 0x13 [] roomy)) .b 5 0x13 (bytes []) ∧
    (served .a 1 0x13 [] roomy).preferred ≠ roomy.preferred := by unfold Takes; decide +kernel

theorem witness_CommonChecksInOrder :
    Takes (ask .a 4 0x13 [] roomy) .a 4 0x13 (bytes []) ∧ Takes (ask .b 3 0x13 [] roomy) .b 3 0x13 (bytes []) ∧
    Takes (ask .b 7 0x30 [] roomy) .b 7 0x30 (bytes []) ∧ Takes (ask .a 3 0x29 [] roomy) .a 3 0x29 (bytes []) ∧
    Takes (ask .a 0 0x29 [] roomy) .a 0 0x29 (bytes []) ∧ Takes (ask .a 0 0x29 [0] roomy) .a 0 0x29 (bytes [0]) := by
  unfold Takes; decide +kernel

theorem witness_HandleChecksInOrder :
    Served (ask .a 1 0x03 [0, 0] State.reset) .a 1 0x03 (bytes [0, 0]) 1 ∧ State.reset.config.mode ≠ .run ∧
    Served (ask .a 1 0x03 [2, 0] busy) .a 1 0x03 (bytes [2, 0]) 1 ∧ readHandle (bytes [2, 0]) = none ∧
    Served (ask .a 1 0x04 [1, 255] busy) .a 1 0x04 (bytes [1, 255]) 1 ∧ busy.ctl.lookup 511 = none ∧
    Served (ask .a 2 0x05 [0, 0, 1] busy) .a 2 0x05 (bytes [0, 0, 1]) 2 ∧
    (busy.ctl.lookup 0).map (fun x => x.2.owner) = some 1 ∧
    Served (ask .b 6 0x02 [0, 3, 0, 0, 0, 0, 0] busy) .b 6 0x02 (bytes [0, 3, 0, 0, 0, 0, 0]) 6 ∧
    (busy.ctl.lookup 3).map (fun x => (x.2.owner, x.2.state)) = some (6, .closed .expired) := by
  unfold Served Takes; decide +kernel

theorem witness_QueryAndListAnswer :
    Served (ask .a 3 0x10 [0, 0] busy) .a 3 0x10 (bytes [0, 0]) 3 ∧ busy.config.mode = .run ∧
    ([0, 1, 2, 3].map fun h => (busy.ctl.lookup h).map fun x => x.2.state) =
      [some (.active 0 10), some .queued, some .deferred, some (.closed .expired)] ∧
    busy.ctl.admission = [] ++ 0 :: [] ∧ busy.ctl.waiting = [2] ++ 1 :: [] ∧ (1 : SlotIx) ∉ ([2] : List SlotIx) ∧
    busy.ctl.waiting = [] ++ 2 :: [1] ∧ Served (ask .b 7 0x11 [7] busy) .b 7 0x11 [7] 7 ∧
    Served (ask .b 7 0x11 [8] busy) .b 7 0x11 [8] 7 ∧ Served (ask .b 7 0x11 [7] State.reset) .b 7 0x11 [7] 7 := by
  unfold Served Takes; decide +kernel

/-- The QUEUED grant of the busy part has a holder, the one of slot 0; a QUEUED grant may have none. -/
theorem witness_QueryAndListAnswer_holder :
    (∀ k gk, busy.ctl.grantAt k = some gk → gk.holds = true → gk.channel = 0 → k = 0) ∧
    NoHolder (holding 1 (grantOf .queued 5 0 2) roomy).ctl 0 :=
  ⟨only_holder_of (by decide +kernel), noHolder_of (by decide +kernel)⟩

theorem witness_MapReadAnswers :
    Served (ask .a 1 0x12 [0, 1] State.reset) .a 1 0x12 [0, 1] 1 ∧ Served (ask .a 1 0x12 [64, 1] busy) .a 1 0x12 [64, 1] 1 ∧
    Served (ask .a 1 0x12 [0, 0] busy) .a 1 0x12 [0, 0] 1 ∧ Served (ask .a 1 0x12 [0, 17] busy) .a 1 0x12 [0, 17] 1 ∧
    Served (ask .b 7 0x12 [63, 16] busy) .b 7 0x12 [63, 16] 7 ∧ busy.config.mode = .run := by
  unfold Served Takes; decide +kernel

theorem witness_GetProfileReads :
    Served (ask .a 1 0x14 [16] busy) .a 1 0x14 [16] 1 ∧ Served (ask .a 1 0x14 [15] busy) .a 1 0x14 [15] 1 ∧
    Served (ask .a 0 0x20 [15, 1, 250, 8, 0, 63, 255] State.reset) .a 0 0x20 (bytes [15, 1, 250, 8, 0, 63, 255]) 0 ∧
    (readSetProfile (bytes [15, 1, 250, 8, 0, 63, 255])).isSome = true ∧ Served (ask .a 0 0x2A [] busy) .a 0 0x2A [] 0 ∧
    (∃ t, exec .frameStart busy = .next t ∧ t.config.mode = .run) := by
  unfold Served Takes
  exact ⟨by decide +kernel, by decide +kernel, by decide +kernel, by decide +kernel, by decide +kernel,
    ⟨_, by simp only [exec, execFrameStart, show busy.inReset = false from by decide +kernel]; rfl, by decide +kernel⟩⟩

theorem witness_StatusAnswers : Served (ask .b 4 0x13 [] busy) .b 4 0x13 [] 4 := by unfold Served Takes; decide +kernel

theorem witness_RoomTestAndFirstFit : (64 : Nat) ≤ 64 ∧ (250 : Nat) < 251 ∧ (1 : Nat) ≤ 1 := by decide

theorem witness_RoomOperations : (busy.ctl.grantAt 0).map Grant.state = some (.active 0 10) ∧
    (busy.ctl.grantAt 2).isSome = true := by decide +kernel

theorem witness_InsertionKeepsOrder :
    ([2, 1] : List SlotIx).Pairwise (fun j k => busy.ctl.priorityAt k ≤ busy.ctl.priorityAt j) := by decide +kernel

theorem witness_RetryPassOutcome : WithinCeilings busy.ctl ∧ ListsExact busy.ctl ∧
    (busy.ctl.grantAt 2).map Grant.waits = some true ∧ (busy.ctl.grantAt 3).map Grant.waits = some false ∧
    busy.ctl.waiting.Nodup ∧ busy.ctl.waiting = [2] ++ 1 :: [] := by
  unfold WithinCeilings ListsExact; decide +kernel

/-- A visit of a DEFERRED grant that finds a start, of one without charge to spare, of one at TIER3, of a QUEUED grant without a
holder, and of one behind its holder. -/
theorem witness_RetryPassOutcome_visits :
    (busy.ctl.grantAt 2).map Grant.state = some .deferred ∧ busy.ctl.tierInForce ≠ 3 ∧
    busy.ctl.place busy.config.profiles 1 (max (footprint 320) (footprint 320)) = some 16 ∧
    chargeless.ctl.place chargeless.config.profiles 1 (max (footprint 320) (footprint 320)) = none ∧
    (tierThree.ctl.grantAt 0).map Grant.state = some .deferred ∧ tierThree.ctl.tierInForce = 3 ∧
    ((holding 1 (grantOf .queued 5 0 2) roomy).ctl.grantAt 1).map Grant.state = some .queued ∧
    NoHolder (holding 1 (grantOf .queued 5 0 2) roomy).ctl 0 ∧
    (busy.ctl.grantAt 1).map (fun g => (g.state, g.channel)) = some (.queued, 0) ∧ ¬ NoHolder busy.ctl 0 :=
  ⟨by decide +kernel, by decide +kernel, by decide +kernel, by decide +kernel, by decide +kernel, by decide +kernel,
    by decide +kernel, noHolder_of (by decide +kernel), by decide +kernel,
    fun h => h 0 { grantOf (.active 0 10) 1 0 5 with notices := Notices.empty } (by decide +kernel) rfl rfl⟩

theorem witness_GrantRefusalsInOrder :
    Served (ask .a 1 0x01 [0, 0, 0, 0, 0, 0, 0, 0] State.reset) .a 1 0x01 (bytes [0, 0, 0, 0, 0, 0, 0, 0]) 1 ∧
    readGrant (bytes [0, 0, 8, 1, 0, 0, 0, 0]) = none ∧ readGrant (bytes [15, 7, 8, 0, 1, 0, 255, 15]) ≠ none ∧
    busy.config.profiles[4].enabled = false ∧ busy.config.profiles[3].enabled = true ∧
    { busy.engine[3] with fault := .faulted }.fault = FaultState.faulted ∧ busy.config.profiles[3].maxDuty = 2048 ∧
    (∀ i, full.ctl.grantAt i ≠ none) ∧ granting.ctl.inFlight = true ∧ granting.ctl.grantAt 3 = none := by
  unfold Served Takes; decide +kernel

/-- GRANT on CH3 for the whole frame passes the first seven steps in the busy part. -/
theorem passes_busy : GrantPasses (ask .a 1 0x01 [3, 7, 8, 0, 1, 0, 255, 8] busy) .a 1 (bytes [3, 7, 8, 0, 1, 0, 255, 8]) 1
    (grantArgs [3, 7, 8, 0, 1, 0, 255, 8]) :=
  passes_of (by unfold Takes; decide +kernel) (by decide +kernel) (by decide +kernel) (by decide +kernel)

theorem witness_GrantPlacedByFirstFit :
    LowestFree busy.ctl 4 ∧ NoHolder busy.ctl 3 ∧ busy.ctl.tierInForce ≠ 3 ∧
    busy.ctl.place busy.config.profiles 3 (footprint 2048) = some 48 := by
  exact ⟨by unfold LowestFree; decide +kernel, noHolder_of (by decide +kernel), by decide +kernel, by decide +kernel⟩

/-- GRANT on CH3 passes the first seven steps at TIER3 and in the fragmented frame; GRANT on CH0 behind its holder too. -/
theorem witness_GrantWaitsOrIsRefused :
    GrantPasses (ask .a 1 0x01 [3, 7, 2, 0, 0, 0, 0, 6] tierThree) .a 1 (bytes [3, 7, 2, 0, 0, 0, 0, 6]) 1
      (grantArgs [3, 7, 2, 0, 0, 0, 0, 6]) ∧ NoHolder tierThree.ctl 3 ∧ LowestFree tierThree.ctl 1 ∧
    GrantPasses (ask .a 1 0x01 [3, 7, 2, 0, 0, 0, 0, 0] fragmented) .a 1 (bytes [3, 7, 2, 0, 0, 0, 0, 0]) 1
      (grantArgs [3, 7, 2, 0, 0, 0, 0, 0]) ∧ NoHolder fragmented.ctl 3 ∧ LowestFree fragmented.ctl 3 ∧
    fragmented.ctl.tierInForce ≠ 3 ∧ fragmented.ctl.place fragmented.config.profiles 3 16 = none ∧
    GrantPasses (ask .a 3 0x01 [0, 5, 2, 0, 0, 0, 0, 3] busy) .a 3 (bytes [0, 5, 2, 0, 0, 0, 0, 3]) 3
      (grantArgs [0, 5, 2, 0, 0, 0, 0, 3]) ∧ (busy.ctl.grantAt 0).map (fun g => (g.holds, g.priority)) = some (true, 5) :=
  ⟨passes_of (by unfold Takes; decide +kernel) (by decide +kernel) (by decide +kernel) (by decide +kernel),
    noHolder_of (by decide +kernel), by unfold LowestFree; decide +kernel,
    passes_of (by unfold Takes; decide +kernel) (by decide +kernel) (by decide +kernel) (by decide +kernel),
    noHolder_of (by decide +kernel), by unfold LowestFree; decide +kernel, by decide +kernel, by decide +kernel,
    passes_of (by unfold Takes; decide +kernel) (by decide +kernel) (by decide +kernel) (by decide +kernel),
    by decide +kernel⟩

/-- A preempting GRANT on CH0 without wait, at TIER3 and without charge to spare. -/
theorem witness_PreemptionWithoutRoomRefused :
    GrantPasses (ask .a 2 0x01 [0, 6, 2, 0, 0, 0, 0, 1] tierThree) .a 2 (bytes [0, 6, 2, 0, 0, 0, 0, 1]) 2
      (grantArgs [0, 6, 2, 0, 0, 0, 0, 1]) ∧ LowestFree tierThree.ctl 1 ∧ tierThree.ctl.tierInForce = 3 ∧
    (tierThree.ctl.grantAt 0).map (fun g => (g.holds, g.priority)) = some (true, 5) ∧
    (∀ k gk, tierThree.ctl.grantAt k = some gk → gk.holds = true → gk.channel = 0 → k = 0) ∧
    GrantPasses (ask .a 2 0x01 [0, 6, 2, 0, 0, 0, 0, 1] chargeless) .a 2 (bytes [0, 6, 2, 0, 0, 0, 0, 1]) 2
      (grantArgs [0, 6, 2, 0, 0, 0, 0, 1]) ∧ LowestFree chargeless.ctl 4 ∧
    (∀ k gk, chargeless.ctl.grantAt k = some gk → gk.holds = true → gk.channel = 0 → k = 0) ∧
    (chargeless.ctl.detach chargeless.config.profiles 0).place chargeless.config.profiles 0 16 = none :=
  ⟨passes_of (by unfold Takes; decide +kernel) (by decide +kernel) (by decide +kernel) (by decide +kernel),
    by unfold LowestFree; decide +kernel, by decide +kernel, by decide +kernel, only_holder_of (by decide +kernel),
    passes_of (by unfold Takes; decide +kernel) (by decide +kernel) (by decide +kernel) (by decide +kernel),
    by unfold LowestFree; decide +kernel, only_holder_of (by decide +kernel), by decide +kernel⟩

/-- A preempting GRANT on CH0 with wait set fits in the busy part, and does not without charge to spare. -/
theorem witness_GrantPreemptsHolder :
    GrantPasses (ask .a 3 0x01 [0, 6, 2, 0, 0, 0, 0, 3] busy) .a 3 (bytes [0, 6, 2, 0, 0, 0, 0, 3]) 3
      (grantArgs [0, 6, 2, 0, 0, 0, 0, 3]) ∧
    (busy.ctl.detach busy.config.profiles 0).place busy.config.profiles 0 16 = some 0 ∧
    (∀ k gk, busy.ctl.grantAt k = some gk → gk.holds = true → gk.channel = 0 → k = 0) ∧
    GrantPasses (ask .a 3 0x01 [0, 6, 2, 0, 0, 0, 0, 3] chargeless) .a 3 (bytes [0, 6, 2, 0, 0, 0, 0, 3]) 3
      (grantArgs [0, 6, 2, 0, 0, 0, 0, 3]) ∧ (grantArgs [0, 6, 2, 0, 0, 0, 0, 3]).wait = true :=
  ⟨passes_of (by unfold Takes; decide +kernel) (by decide +kernel) (by decide +kernel) (by decide +kernel),
    by decide +kernel, only_holder_of (by decide +kernel),
    passes_of (by unfold Takes; decide +kernel) (by decide +kernel) (by decide +kernel) (by decide +kernel), by decide +kernel⟩

theorem witness_GrantStartsRepack :
    GrantPasses (ask .a 1 0x01 [3, 4, 2, 0, 0, 0, 0, 4] fragmented) .a 1 (bytes [3, 4, 2, 0, 0, 0, 0, 4]) 1
      (grantArgs [3, 4, 2, 0, 0, 0, 0, 4]) ∧ NoHolder fragmented.ctl 3 ∧
    fragmented.ctl.totalCharge + fragmented.config.profiles[3].current * footprint 512 ≤ fragmented.ctl.chargeInForce ∧
    fragmented.config.profiles[3].current ≤ fragmented.ctl.peakInForce ∧ ListsExact fragmented.ctl :=
  ⟨passes_of (by unfold Takes; decide +kernel) (by decide +kernel) (by decide +kernel) (by decide +kernel),
    noHolder_of (by decide +kernel), by decide +kernel, by decide +kernel, by unfold ListsExact; decide +kernel⟩
/-- The three ways in which a repack does not start, at the edge of each: C1's GRANT of 16 segments of 200 brings the charge to
9200, and 200 is one more than the peak. -/
theorem witness_GrantWaitsOrIsRefused_edges :
    (grantArgs [3, 7, 2, 0, 0, 0, 0, 0]).allowRepack = false ∧
    9199 < fragmented.ctl.totalCharge + fragmented.config.profiles[3].current * footprint 512 ∧
    199 < fragmented.config.profiles[3].current ∧
    ({ fragmented.ctl with chargeInForce := 9199 } : Controller).place fragmented.config.profiles 3 16 = none ∧
    ({ fragmented.ctl with peakInForce := 199 } : Controller).place fragmented.config.profiles 3 16 = none := by decide +kernel

/-- An ADJUST of a DEFERRED, a QUEUED and an ACTIVE grant within its reservation; the last to its present duty above which
room is left. -/
theorem witness_AdjustWithinReservation :
    Served (ask .a 2 0x02 [0, 2, 8, 0, 1, 0, 8] busy) .a 2 0x02 (bytes [0, 2, 8, 0, 1, 0, 8]) 2 ∧
    readAdjust (bytes [0, 2, 8, 0, 1, 0, 8]) = some (adjustArgs [0, 2, 8, 0, 1, 0, 8]) ∧
    (busy.ctl.lookup 2).map (fun x => (x.1, x.2.owner, x.2.state)) = some (2, 2, .deferred) ∧
    (adjustArgs [0, 2, 8, 0, 1, 0, 8]).target ≤ busy.config.profiles[1].maxDuty ∧
    Served (ask .b 5 0x02 [0, 1, 0, 0, 0, 0, 0] busy) .b 5 0x02 (bytes [0, 1, 0, 0, 0, 0, 0]) 5 ∧
    (busy.ctl.lookup 1).map (fun x => (x.1, x.2.owner, x.2.state)) = some (1, 5, .queued) ∧
    Served (ask .a 1 0x02 [0, 0, 1, 64, 0, 0, 0] busy) .a 1 0x02 (bytes [0, 0, 1, 64, 0, 0, 0]) 1 ∧
    (busy.ctl.lookup 0).map (fun x => (x.1, x.2.owner, x.2.state)) = some (0, 1, .active 0 10) ∧ footprint 320 ≤ 10 ∧
    (threeRuns.ctl.lookup 0).map (fun x => (x.2.owner, x.2.state, x.2.presentDuty)) = some (2, .active 0 22, 320) ∧
    footprint 320 < 22 := by unfold Served Takes; decide +kernel

/-- ADJUST beyond the reservation: a run that fits, one that meets another reservation, a target above the max duty, a repack in
flight. -/
theorem witness_AdjustBeyondReservation :
    Served (ask .a 1 0x02 [0, 0, 8, 0, 0, 1, 4] busy) .a 1 0x02 (bytes [0, 0, 8, 0, 0, 1, 4]) 1 ∧ busy.ctl.inFlight = false ∧
    (∀ k : Segment, covers 0 64 k = true → covers 0 10 k = false → busy.ctl.loadMap[k] + 100 ≤ busy.ctl.peakInForce) ∧
    busy.ctl.totalCharge + 100 * (64 - 10) ≤ busy.ctl.chargeInForce ∧
    Served (ask .b 6 0x02 [0, 1, 4, 0, 0, 16, 4] fragmented) .b 6 0x02 (bytes [0, 1, 4, 0, 0, 16, 4]) 6 ∧
    (fragmented.ctl.lookup 1).map (fun x => (x.1, x.2.owner, x.2.state)) = some (1, 6, .active 20 10) ∧
    ¬ (∀ k : Segment, covers 20 32 k = true → covers 20 10 k = false →
      fragmented.ctl.loadMap[k] + 200 ≤ fragmented.ctl.peakInForce) ∧
    fragmented.ctl.totalCharge + 200 * (32 - 10) ≤ fragmented.ctl.chargeInForce ∧
    (adjustArgs [0, 1, 4, 0, 0, 16, 4]).allowRepack = true ∧ (adjustArgs [0, 1, 4, 0, 0, 16, 8]).allowRepack = false ∧
    granting.ctl.inFlight = true ∧ (granting.ctl.lookup 1).map (fun x => x.2.owner) = some 6 ∧
    (1023 : Nat) < (adjustArgs [0, 1, 4, 0, 0, 16, 4]).target := by unfold Served Takes; decide +kernel

/-- The busy part with every max duty at 512: an ADJUST to 513 of the DEFERRED, the QUEUED and the ACTIVE grant. -/
theorem witness_AdjustBeyondReservation_limit :
    let s : State := { busy with config := { busy.config with
      profiles := Vector.ofFn fun ch => { busy.config.profiles[ch] with maxDuty := 512 } } }
    Served (ask .a 2 0x02 [0, 2, 2, 1, 0, 0, 0] s) .a 2 0x02 (bytes [0, 2, 2, 1, 0, 0, 0]) 2 ∧
    Served (ask .b 5 0x02 [0, 1, 2, 1, 0, 0, 0] s) .b 5 0x02 (bytes [0, 1, 2, 1, 0, 0, 0]) 5 ∧
    Served (ask .a 1 0x02 [0, 0, 2, 1, 0, 0, 0] s) .a 1 0x02 (bytes [0, 0, 2, 1, 0, 0, 0]) 1 ∧ s.config.mode = .run ∧
    ([2, 1, 0].map fun h => (s.ctl.lookup h).map fun x => (x.2.owner, x.2.isLiving, s.config.profiles[x.2.channel].maxDuty)) =
      [some (2, true, 512), some (5, true, 512), some (1, true, 512)] ∧
    (adjustArgs [0, 2, 2, 1, 0, 0, 0]).target = 513 := by unfold Served Takes; decide +kernel

theorem witness_RenewRestartsLease :
    Served (ask .a 1 0x03 [0, 0] { expiring with events := { Events.reset with leaseTicks := 1 } }) .a 1 0x03 (bytes [0, 0]) 1 ∧
    (expiring.ctl.lookup 0).map (fun x => (x.1, x.2.owner, x.2.isLiving, x.2.leaseLength, x.2.leaseRemaining)) =
      some (0, 1, true, 4, some 1) ∧ expiring.ctl.inFlight = false ∧ expiring.config.mode = .run ∧
    (({ grantOf (.active 0 10) 1 0 5 with leaseLength := 0, leaseRemaining := none } : Grant).leaseLength = 0) := by
  unfold Served Takes; decide +kernel

theorem witness_ReleaseFreesSlot :
    Served (ask .a 1 0x04 [0, 0] busy) .a 1 0x04 (bytes [0, 0]) 1 ∧ Served (ask .a 2 0x04 [0, 2] busy) .a 2 0x04 (bytes [0, 2]) 2 ∧
    Served (ask .b 5 0x04 [0, 1] busy) .b 5 0x04 (bytes [0, 1]) 5 ∧ Served (ask .b 6 0x04 [0, 3] busy) .b 6 0x04 (bytes [0, 3]) 6 ∧
    ([0, 1, 2, 3].map fun h => (busy.ctl.lookup h).map fun x => (x.2.owner, x.2.holds)) =
      [some (1, true), some (5, false), some (2, true), some (6, false)] := by unfold Served Takes; decide +kernel

theorem witness_AckRemovesNotices :
    Served (ask .b 6 0x05 [0, 3, 16] busy) .b 6 0x05 (bytes [0, 3, 16]) 6 ∧ (readAck (bytes [0, 3, 16])).isSome = true ∧
    (busy.ctl.lookup 3).map (fun x => x.2.isClosed) = some true ∧
    Served (ask .a 2 0x05 [0, 2, 31] busy) .a 2 0x05 (bytes [0, 2, 31]) 2 ∧ (readAck (bytes [0, 2, 31])).isSome = true := by
  unfold Served Takes; decide +kernel

/-- REVOKE of a living and of a CLOSED grant, and of the grant an ADJUST on the other port would move. -/
theorem witness_RevokeRetiresGrant :
    Served (ask .a 0 0x06 [0, 0] busy) .a 0 0x06 (bytes [0, 0]) 0 ∧ busy.ctl.adjusting 0 = false ∧
    Served (ask .a 0 0x06 [0, 3] busy) .a 0 0x06 (bytes [0, 3]) 0 ∧
    (busy.ctl.lookup 3).map (fun x => x.2.state) = some (.closed .expired) ∧
    Served (ask .a 0 0x06 [0, 1] repacking) .a 0 0x06 (bytes [0, 1]) 0 ∧ repacking.ctl.adjusting 1 = true ∧
    (repacking.ctl.lookup 1).map (fun x => x.2.isLiving) = some true ∧ repacking.ctl.held.map HeldRequest.port = some .b := by
  unfold Served Takes; decide +kernel

theorem witness_DropClientFreesGrants :
    Served (ask .a 1 0x07 [1] State.reset) .a 1 0x07 [1] 1 ∧ Served (ask .a 1 0x07 [8] busy) .a 1 0x07 [8] 1 ∧
    Served (ask .a 2 0x07 [7] busy) .a 2 0x07 [7] 2 ∧ Served (ask .b 7 0x07 [7] busy) .b 7 0x07 [7] 7 ∧
    busy.ctl.repackTouches 7 = false ∧ Served (ask .a 0 0x07 [6] repacking) .a 0 0x07 [6] 0 ∧
    repacking.ctl.repackTouches 6 = true ∧ repacking.ctl.held.map HeldRequest.port = some .b := by
  unfold Served Takes; decide +kernel

theorem witness_ClearFaultReturnsChannel :
    Served (ask .a 0 0x18 [16] busy) .a 0 0x18 [16] 0 ∧ Served (ask .a 0 0x18 [15] State.reset) .a 0 0x18 [15] 0 ∧
    ((15 : Channel).val = (15 : Byte).toNat) := by unfold Served Takes; decide +kernel

theorem witness_SettingsWritten :
    Served (ask .a 0 0x23 [1, 0] busy) .a 0 0x23 (bytes [1, 0]) 0 ∧ busy.config.mode = .run ∧ State.reset.config.mode = .config ∧
    Served (ask .a 0 0x20 [16, 0, 1, 0, 1, 0, 0] State.reset) .a 0 0x20 (bytes [16, 0, 1, 0, 1, 0, 0]) 0 ∧
    readSetProfile (bytes [16, 0, 1, 0, 1, 0, 0]) = none ∧ (readSetProfile (bytes [15, 31, 1, 0, 1, 63, 255])).isSome = true ∧
    readTiers (bytes [15, 161, 0, 0, 0, 0, 0, 0, 0, 0, 0, 0, 0, 0, 0]) = none ∧
    Served (ask .a 0 0x21 [15, 160, 3, 232, 0, 0, 0, 0, 0, 0, 0, 0, 0, 0, 0] State.reset) .a 0 0x21
      (put16 4000 ++ put24 256000 ++ put16 0 ++ put24 0 ++ put16 0 ++ put24 0) 0 ∧
    readMonitor (bytes [0, 64, 40, 32, 0, 1, 0, 1, 0, 0]) = none ∧
    Served (ask .a 0 0x22 [7, 63, 2, 1, 7, 15, 15, 255, 3, 3] State.reset) .a 0 0x22
      (bytes [7, 63, 2, 1, 7, 15, 15, 255, 3, 3]) 0 ∧ (readMonitor (bytes [7, 63, 2, 1, 7, 15, 15, 255, 3, 3])).isSome = true ∧
    readFrame (bytes [0, 7]) = none ∧ Served (ask .a 0 0x23 [64, 7] State.reset) .a 0 0x23 [64, 7] 0 ∧
    State.reset.events.engineFrames = 0 ∧
    Served (ask .a 0 0x23 [64, 7] (after .frameStart State.reset)) .a 0 0x23 [64, 7] 0 ∧
    (after .frameStart State.reset).config.mode = .config ∧ 1 ≤ (after .frameStart State.reset).events.engineFrames := by
  unfold Served Takes; decide +kernel

/-- A part in CONFIG with CH0 enabled and these tier ceilings. -/
def inConfig (p1 p2 : Nat) : State :=
  { roomy with config := { roomy.config with mode := .config, tiers := ⟨⟨300, 9000⟩, ⟨p1, 9000⟩, ⟨p2, 9000⟩⟩ } }

theorem witness_StartEntersRun :
    Served (ask .a 0 0x28 [] busy) .a 0 0x28 [] 0 ∧ busy.config.mode = .run ∧ Served (ask .a 0 0x28 [] State.reset) .a 0 0x28 [] 0 ∧
    ((List.finRange 16).filter fun ch => State.reset.config.profiles[ch].enabled) = [] ∧
    ((List.finRange 16).filter fun ch => (inConfig 301 300).config.profiles[ch].enabled) ≠ [] ∧
    Served (ask .a 0 0x28 [] (inConfig 301 300)) .a 0 0x28 [] 0 ∧
    ¬ (inConfig 301 300).config.tiers.tier1.peak ≤ (inConfig 301 300).config.tiers.tier0.peak ∧
    Served (ask .a 0 0x28 [] (inConfig 299 300)) .a 0 0x28 [] 0 ∧
    ¬ (inConfig 299 300).config.tiers.tier2.peak ≤ (inConfig 299 300).config.tiers.tier1.peak ∧
    Served (ask .a 0 0x28 [] (inConfig 300 300)) .a 0 0x28 [] 0 := by unfold Served Takes; decide +kernel

theorem witness_StopFreesAll :
    Served (ask .a 0 0x29 [] State.reset) .a 0 0x29 [] 0 ∧ Served (ask .a 0 0x29 [] busy) .a 0 0x29 [] 0 ∧
    busy.ctl.inFlight = false ∧ Served (ask .a 0 0x29 [] repacking) .a 0 0x29 [] 0 ∧ repacking.config.mode = .run ∧
    repacking.ctl.inFlight = true ∧ repacking.ctl.held.map HeldRequest.port = some .b := by unfold Served Takes; decide +kernel

theorem witness_ClearReturnsPart :
    Served (ask .a 0 0x2A [] busy) .a 0 0x2A [] 0 ∧ Served (ask .a 0 0x2A [] repacking) .a 0 0x2A [] 0 ∧
    repacking.ctl.inFlight = true ∧ repacking.ctl.held.map HeldRequest.port = some .b := by unfold Served Takes; decide +kernel

theorem witness_FrameTimerSteps : (after .hardReset busy).inReset = true ∧ busy.inReset = false ∧
    busy.timer.step.val + 2047 ≤ 2047 ∧ (atFrameEnd 7).inReset = false ∧ (atFrameEnd 7).timer.step = 2047 ∧
    (atFrameEnd 7).events.engineFrames = 0 ∧ (atFrameEnd 7).events.supplyFrames = 0 ∧
    (atFrameEnd 7).events.controllerFrames = 0 ∧ busy.timer.step ≠ 2047 := by decide +kernel

/-- The frame start of the busy part finds CH0 OK with an ACTIVE grant; CH3 has none; duty 0 forms no window. -/
theorem witness_EngineFrameCaptures :
    eventful.events.engineFrames = 0 + 1 ∧ eventful.config.mode = .run ∧
    (eventful.ctl.grantAt 0).map (fun g => (g.isActive, g.state, g.presentDuty)) = some (true, .active 0 10, 320) ∧
    (after .engineFrameStart eventful).engine[0].fault = .ok ∧
    ({ State.reset with events := { Events.reset with engineFrames := 1 } }).config.mode = .config ∧
    (after (.channelBecomesFaulted 11) (after .frameStart heldLine)).engine[11].fault = .faulted ∧ 1 ≤ (64 : Nat) := by
  decide +kernel

theorem witness_EngineFrameCaptures_bound : ReservationBound eventful ∧ MapExact eventful ∧
    ((after .engineFrameStart eventful).engine[0].window.map fun w => (w.start.val, w.length)) = some (0, 320) :=
  ⟨witness_ReservationBoundKept, busy_roomExact.2.2, by decide +kernel⟩

/-- Units at the edges of the evaluation: a count of 1 and of 2 with a mismatch, a matched frame, an unchecked one. -/
theorem witness_EvaluationFaultsChannel :
    ({ ChannelUnit.reset with mismatches := 2, inside := .mismatched }.faultsNow (profile 1 0)) = true ∧
    ({ ChannelUnit.reset with mismatches := 1, outside := .mismatched }.faultsNow (profile 1 0)) = false ∧
    ({ ChannelUnit.reset with mismatches := 2, inside := .matched }.evaluate (profile 1 0)).mismatches = 0 ∧
    ({ ChannelUnit.reset with mismatches := 2 }.evaluate (profile 1 0)).mismatches = 2 ∧
    ({ ChannelUnit.reset with mismatches := 2, inside := .mismatched }.evaluate (Profile.reset 0)).mismatches = 0 ∧
    ({ ChannelUnit.reset with fault := .faulted, mismatches := 3 }.evaluate (profile 1 0)).mismatches = 3 ∧
    (after .frameStart heldLine).events.engineFrames = 0 + 1 ∧ 2 ≤ heldLine.engine[11].mismatches ∧
    heldLine.engine[11].outside = .mismatched ∧ heldLine.engine[10].outside = .notTaken := by decide +kernel

/-- CH0 of the busy part after its capture, at this step. -/
def sampling (step : StepIx) : State :=
  { (after .engineFrameStart { eventful with events := { Events.reset with engineFrames := 1 } }) with
    timer := { step := step, frameCount := 0 } }

/-- CH0's window is 320 steps from 0: its samples fall at steps 160 and 1184; CH1 has none and is sampled at 1024. -/
theorem witness_PinsAndReadbackSamples :
    (sampling 160).events.engineFrames = 0 ∧ (sampling 160).inReset = false ∧ (sampling 160).config.profiles[0].enabled = true ∧
    (sampling 160).config.profiles[0].readback = true ∧ (sampling 160).engine[0].fault = .ok ∧
    (sampling 160).engine[0].captured = some ⟨0, 320⟩ ∧ (sampling 160).engine[0].inside = .notTaken ∧
    (after (.readbackSample 0 true) (sampling 160)).engine[0].inside = .matched ∧
    (after (.readbackSample 0 true) (sampling 1184)).engine[0].outside = .mismatched ∧
    (sampling 1024).engine[1].captured = none ∧ (after (.readbackSample 1 false) (sampling 1024)).engine[1].outside = .matched ∧
    after (.readbackSample 1 true) (sampling 1023) = sampling 1023 ∧ (after .hardReset busy).inReset = true := by decide +kernel

/-- Samples at the edges of the debounce and of the hold-off, and one that is neither a down nor an up frame. -/
theorem witness_DebounceAndHoldOff :
    (monitored 0 1 0).events.supplyFrames = 0 + 1 ∧ (monitored 0 1 0).config.monitor.enabled = true ∧
    (monitored 0 1 0).supply.down + 1 < (monitored 0 1 0).config.monitor.nDown ∧
    (monitored 0 2 0).supply.down + 1 = (monitored 0 2 0).config.monitor.nDown ∧
    (monitored 2 0 498).supply.up + 1 < (monitored 2 0 498).config.monitor.holdOff ∧
    (monitored 2 0 499).supply.up + 1 = (monitored 2 0 499).config.monitor.holdOff ∧
    (after (.sample (senseAt 47) ⟨false, false⟩) (monitored 0 1 0)).supply.down = 2 ∧
    (after (.sample (senseAt 42) ⟨false, false⟩) (monitored 2 0 498)).supply.up = 499 ∧
    (after (.sample (senseAt 41) ⟨false, false⟩) (monitored 2 0 498)).supply.up = 0 := by decide +kernel

theorem witness_SampleSetsEffectiveTier : eventful.events.supplyFrames = 0 + 1 ∧ eventful.config.monitor.enabled = false ∧
    (monitored 3 0 0).events.supplyFrames = 0 + 1 := by decide +kernel

/-- A tier change raised: no change, in CONFIG, a rise in RUN with and without a repack in flight. -/
theorem witness_TierChangeLoadsCeilings :
    eventful.events.tierChanges = 0 + 1 ∧ eventful.supply.effective = eventful.ctl.tierInForce ∧
    State.reset.config.mode = .config ∧ ({ TierUnit.reset with effective := 3 } : TierUnit).effective ≠ State.reset.ctl.tierInForce ∧
    ({ tierThree with supply := TierUnit.reset } : State).supply.effective < tierThree.ctl.tierInForce ∧
    tierThree.ctl.inFlight = false ∧ repacking.ctl.inFlight = true := by decide +kernel

/-- A drop to TIER3 and to a tier whose charge is below what is in force. -/
theorem witness_TierDropSheds :
    eventful.config.mode = .run ∧ eventful.ctl.tierInForce < 3 ∧ ListsExact eventful.ctl ∧ MapExact eventful ∧
    eventful.ctl.inFlight = false ∧ repacking.ctl.inFlight = true ∧ repacking.ctl.held.isSome = true ∧
    repacking.config.mode = .run ∧ repacking.ctl.tierInForce < 3 ∧ WithinCeilings busy.ctl ∧ busy.ctl.tierInForce ≠ 3 := by
  unfold ListsExact MapExact WithinCeilings; decide +kernel

/-- The next grant to shed at TIER3, for peak in segment 0, and for charge. -/
theorem witness_ShedChoosesLowestLatest :
    ListsExact threeRuns.ctl ∧ ({ threeRuns.ctl with tierInForce := 3 } : Controller).nextShed = some 2 ∧
    ({ threeRuns.ctl with peakInForce := 249 } : Controller).nextShed = some 2 ∧
    249 < threeRuns.ctl.loadMap[0] ∧ ({ threeRuns.ctl with chargeInForce := 6519 } : Controller).nextShed = some 2 ∧
    (∀ k : Segment, threeRuns.ctl.loadMap[k] ≤ threeRuns.ctl.peakInForce) ∧ threeRuns.ctl.tierInForce ≠ 3 := by
  unfold ListsExact; decide +kernel

/-- A tick in CONFIG and in RUN, with leases of 1 and of 3, and for the adjusted grant of a repack. -/
theorem witness_LeaseTickCountsAndExpires :
    eventful.events.leaseTicks = 0 + 1 ∧ eventful.config.mode = .run ∧ State.reset.config.mode = .config ∧
    busy.events.leaseTicks = 0 ∧ busy.ctl.grantAt 4 = none ∧
    (eventful.ctl.grantAt 0).map (fun g => (g.isLiving, g.leaseRemaining)) = some (true, some 3) ∧
    (expiring.ctl.grantAt 0).map (fun g => (g.isLiving, g.leaseRemaining)) = some (true, some 1) ∧
    (eventful.ctl.grantAt 3).map Grant.isClosed = some true ∧ repacking.ctl.adjusting 1 = true ∧
    (repacking.ctl.grantAt 1).map Grant.isLiving = some true := by decide +kernel

/-- Leases that run out at the tick: of a holder, of a QUEUED grant alone, and of the adjusted grant of a repack. -/
theorem witness_LeaseTickCountsAndExpires_ends :
    let queued := holding 1 { grantOf .queued 5 0 2 with leaseRemaining := some 1 } roomy
    let adjusted := repacking.ctl.putGrant 1 { grantOf (.active 20 10) 6 1 3 with leaseRemaining := some 1 }
    leaseEnds expiring.ctl 0 ∧ (expiring.ctl.grantAt 0).any Grant.holds = true ∧ (∀ i, expiring.ctl.adjusting i = false) ∧
    leaseEnds queued.ctl 1 ∧ (∀ i, (queued.ctl.grantAt i).any Grant.holds = false) ∧
    leaseEnds adjusted 1 ∧ adjusted.adjusting 1 = true :=
  ⟨⟨{ grantOf (.active 0 10) 1 0 5 with leaseRemaining := some 1 }, 1, by decide +kernel, rfl, rfl, le_rfl⟩,
    by decide +kernel, by decide +kernel,
    ⟨{ grantOf .queued 5 0 2 with leaseRemaining := some 1 }, 1, by decide +kernel, rfl, rfl, le_rfl⟩, by decide +kernel,
    ⟨{ grantOf (.active 20 10) 6 1 3 with leaseRemaining := some 1 }, 1, by decide +kernel, rfl, rfl, le_rfl⟩,
    by decide +kernel⟩

theorem witness_RampCompleteTaken :
    (⟨0, 320⟩ : RampEvent) ∈ eventful.events.rampCompletes ∧ State.reset.config.mode = .config ∧ busy.ctl.lookup 511 = none ∧
    (busy.ctl.lookup 1).map (fun x => x.2.isActive) = some false ∧
    (busy.ctl.lookup 0).map (fun x => (x.1, x.2.state, x.2.targetDuty, x.2.presentDuty)) = some (0, .active 0 10, 320, 320) ∧
    eventful.config.mode = .run := by decide +kernel

/-- A ramp complete that shrinks 10 segments to 4, with and without a repack in flight. -/
theorem witness_RampCompleteTaken_shrinks :
    let down : Grant := { grantOf (.active 58 10) 5 2 3 with presentDuty := 100, targetDuty := 100 }
    ((threeRuns.ctl.putGrant 2 down).lookup 2).map (fun x => (x.1, x.2.state, x.2.targetDuty, x.2.presentDuty)) =
      some (2, .active 58 10, 100, 100) ∧ footprint 100 < 10 ∧ threeRuns.config.mode = .run ∧
    ((repacking.ctl.putGrant 2 { down with state := .active 40 10 }).lookup 2).map (fun x => x.2.state) = some (.active 40 10) ∧
    repacking.ctl.inFlight = true := by decide +kernel

theorem witness_ChannelFaultClosesGrants :
    (0 : Channel) ∈ eventful.events.channelFaults ∧ eventful.config.mode = .run ∧ ListsExact eventful.ctl ∧
    eventful.ctl.inFlight = false ∧ State.reset.config.mode = .config ∧ granting.ctl.inFlight = true ∧
    granting.ctl.held.map HeldRequest.kind = some (.grant 3 4 512 0) := by unfold ListsExact; decide +kernel

theorem witness_ChannelFaultClosesGrants_holders : OneHolder eventful.ctl := witness_HoldersKept.1

/-- A fault of CH1 while an ADJUST of its grant is in flight, and of CH3 while a GRANT on it is. -/
theorem witness_ChannelFaultClosesGrants_repacks :
    ListsExact repacking.ctl ∧ OneHolder repacking.ctl ∧ repacking.config.mode = .run ∧ repacking.ctl.adjusting 1 = true ∧
    (repacking.ctl.grantAt 1).map (fun g => (g.isLiving, g.channel)) = some (true, 1) ∧ repacking.ctl.held.isSome = true ∧
    ListsExact granting.ctl ∧ OneHolder granting.ctl ∧ granting.config.mode = .run := by
  have one : ∀ c ∈ [repacking.ctl, granting.ctl], ∀ i j : SlotIx, ∀ gi ∈ c.grantAt i, ∀ gj ∈ c.grantAt j,
      gi.holds = true → gj.holds = true → gi.channel = gj.channel → i = j := by decide +kernel
  have adjust : ∀ h ∈ repacking.ctl.held, h.kind = .adjust 1 1024 := by decide +kernel
  have grant : ∀ h ∈ granting.ctl.held, h.kind = .grant 3 4 512 0 := by decide +kernel
  have free : ∀ i : SlotIx, ∀ g ∈ granting.ctl.grantAt i, g.holds = true → g.channel ≠ 3 := by decide +kernel
  refine ⟨by unfold ListsExact; decide +kernel,
    ⟨fun i j gi gj hi hj => one _ (by simp) i j gi hi gj hj, fun client ch h => ?_⟩, by decide +kernel, by decide +kernel,
    by decide +kernel, by decide +kernel, by unfold ListsExact; decide +kernel,
    ⟨fun i j gi gj hi hj => one _ (by simp) i j gi hi gj hj, fun client ch h => ?_⟩, by decide +kernel⟩
  · obtain ⟨-, held, hh, -, p, d, l, hk⟩ := h
    rw [adjust held hh] at hk; cases hk
  · obtain ⟨-, held, hh, -, p, d, l, hk⟩ := h
    rw [grant held hh] at hk; cases hk
    exact fun i g hg => free i g hg

theorem witness_PlanEventsTaken :
    (⟨true, 1⟩ : PlanEvent) ∈ granting.events.planEvents ∧ granting.ctl.repack = .planning ∧ granting.ctl.planSerial = 1 ∧
    granting.ctl.held.isSome = true ∧ (after (.planComplete 1) granting).ctl.repack ≠ .planning ∧
    (0xFF : Byte) ≠ granting.ctl.planSerial := by decide +kernel

/-- A frame start taken with the plan of an ADJUST, with that of a GRANT, and in another condition. -/
theorem witness_RepackApplied :
    eventful.events.controllerFrames = 0 + 1 ∧ eventful.ctl.repack ≠ .applyPending ∧
    (after (.planComplete 1) repacking).ctl.repack = .applyPending ∧
    (after (.planComplete 1) repacking).ctl.held.map HeldRequest.kind = some (.adjust 1 1024) ∧
    ((after (.planComplete 1) repacking).planner.plan.map fun l => (l.map fun q => q.entry.slot)) =
      some [some 1, some 0, some 2] ∧ (repacking.ctl.lookup 1).map (fun x => x.2.isActive) = some true ∧
    (after (.planComplete 1) granting).ctl.repack = .applyPending ∧
    ((after (.planComplete 1) granting).planner.plan.map fun l => (l.map fun q => q.entry.slot)) =
      some [none, some 0, some 1, some 2] ∧ LowestFree granting.ctl 3 ∧ granting.ctl.adjusting 0 = false := by
  unfold LowestFree; decide +kernel

theorem witness_HardResetAndEnd : busy.inReset = false ∧
    (after (.resetEnd false false true true) (after .hardReset busy)).portA.ignoring = true ∧
    (after (.resetEnd false false true true) (after .hardReset busy)).portB.ignoring = true ∧
    (after (.resetEnd false false true true) (after .hardReset busy)).inReset = false ∧
    (after .hardReset busy).inReset = true ∧ (0x55 : Byte) ≠ 0x3C ∧ (0x55 : Byte) ≠ 0xC3 := by decide +kernel

end Sys2Proof.Tests
end

section
/-! SUPPORT. GRANT on a channel that has a holder: the slot and the holder it finds, what steps 1 to 7 leave to step 8, and the
preemption path that finds no room (R51, R56, R64, R67). -/

namespace Sys2Proof.Proofs

open Sys2Proof Sys2Proof.Machine Sys2Proof.Safety Sys2Proof.Laws

/-! ## The slots a GRANT finds -/

/-- The lowest FREE slot is the one a GRANT takes (R3). -/
theorem freeSlot_of_lowestFree {c : Controller} {i : SlotIx} (h : LowestFree c i) : c.freeSlot = some i := by
  obtain ⟨hfree, hbelow⟩ := h
  refine List.find?_eq_some_iff_getElem.2 ⟨by simp [hfree], i.val, by simp [allSlots], by simp [allSlots], fun j hj => ?_⟩
  simpa [allSlots, Option.isSome_iff_ne_none] using hbelow ⟨j, hj.trans i.isLt⟩ hj

/-- A test that one slot alone meets finds that slot. -/
theorem findSlot_of_unique {c : Controller} {q : Grant → Bool} {j : SlotIx} (hj : (c.grantAt j).any q = true)
    (hone : ∀ k, (c.grantAt k).any q = true → k = j) : c.findSlot q = some j := by
  unfold Controller.findSlot
  cases hf : allSlots.find? fun k => (c.grantAt k).any q with
  | none => exact absurd hj (List.find?_eq_none.1 hf j (List.mem_finRange j))
  | some k =>
    have hk : (c.grantAt k).any q = true := by simpa using List.find?_some hf
    rw [hone k hk]

/-- The one grant that holds a channel is its holder (R12). -/
theorem holder_of_unique {c : Controller} {ch : Channel} {j : SlotIx} {gj : Grant} (hj : c.grantAt j = some gj)
    (hholds : gj.holds = true) (hch : gj.channel = ch)
    (hone : ∀ k gk, c.grantAt k = some gk → gk.holds = true → gk.channel = ch → k = j) : c.holder ch = some j := by
  refine findSlot_of_unique (by simp [hj, hholds, hch]) fun k hk => ?_
  obtain ⟨gk, hgk, hq⟩ := (Option.any_eq_true _ _).1 hk
  simp only [Bool.and_eq_true, beq_iff_eq] at hq
  obtain ⟨hgk_holds, hgk_ch⟩ := hq
  exact hone k gk hgk hgk_holds hgk_ch

/-- A client with no living grant on the channel passes the duplicate check (R53). -/
theorem hasLiving_of_none {c : Controller} {who : Client} {ch : Channel}
    (h : ∀ i g, c.grantAt i = some g → g.isLiving = true → g.owner = who → g.channel ≠ ch) :
    c.hasLiving who ch = false := by
  have hnone : c.findSlot (fun g => g.isLiving && g.owner == who && g.channel == ch) = none := by
    refine List.find?_eq_none.2 fun i _ hi => ?_
    obtain ⟨g, hg, hq⟩ := (Option.any_eq_true _ _).1 hi
    simp only [Bool.and_eq_true, beq_iff_eq] at hq
    obtain ⟨⟨hlives, howner⟩, hch⟩ := hq
    exact h i g hg hlives howner hch
  simp [Controller.hasLiving, hnone]

/-! ## Steps 1 to 7 -/

/-- A GRANT that passes steps 1 to 7 and has a FREE slot is not refused by them (R51 to R54). -/
theorem grantRefusal_of_passes {s : State} {p : Port} {client : Byte} {payload : List Byte} {who : Client} {a : GrantArgs}
    {i : SlotIx} (hpass : GrantPasses s p client payload who a) (hfree : s.ctl.freeSlot = some i) :
    grantRefusal a who s = none := by
  obtain ⟨-, -, -, henabled, hfault, hduty, hliving, hflight⟩ := hpass
  simp only [grantRefusal, henabled, hfault, Nat.not_lt.2 hduty, hasLiving_of_none hliving, hfree, hflight, Bool.not_true,
    Option.isNone_some, reduceCtorEq, Bool.false_eq_true, if_false]

/-- The checks of steps 1 to 7 do not read the ports. -/
theorem grantRefusal_markTaken (a : GrantArgs) (who : Client) (s : State) (p : Port) (r : Request) :
    grantRefusal a who (s.markTaken p r) = grantRefusal a who s := by
  simp [grantRefusal]

/-- A GRANT that passes steps 1 to 7 for a channel with a holder is decided by step 8's rule for held channels (R56). -/
theorem exec_grant_of_holder {s : State} {p : Port} {client : Byte} {payload : List Byte} {who : Client} {a : GrantArgs}
    {i j : SlotIx} (hpass : GrantPasses s p client payload who a) (hfree : s.ctl.freeSlot = some i)
    (hholder : s.ctl.holder a.channel = some j) :
    exec (.grant p client payload) s =
      .next (grantHeldChannel a ⟨p, who, client, 0x01⟩ i j (s.markTaken p ⟨client, 0x01, payload⟩)) := by
  have hclear := grantRefusal_of_passes hpass hfree
  obtain ⟨hserved, hrun, hread, -⟩ := hpass
  have hexec : exec (.grant p client payload) s = execGrant p client payload s := rfl
  rw [hexec, execGrant, runRequest_served hserved]
  simp [grantEvent, State.running, hrun, hread, grantRefusal_markTaken, hclear, hfree, hholder]

/-! ## The preemption path (R64 to R67) -/

/-- At TIER3 nothing fits (R64). -/
theorem placeUnlessTier3_of_tier3 {c : Controller} (h : c.tierInForce = 3) (profiles : Vector Profile 16) (ch : Channel)
    (f : Nat) : c.placeUnlessTier3 profiles ch f = none := by
  simp [Controller.placeUnlessTier3, Controller.atTier3, h]

/-- First-fit after a preemption is first-fit without the holder's room: joining the waiting list takes none (R64, R65). -/
theorem preempt_place (c : Controller) (profiles : Vector Profile 16) (j : SlotIx) (ch : Channel) (f : Nat) :
    (c.preempt profiles j).place profiles ch f = (c.detach profiles j).place profiles ch f := by
  obtain ⟨hmap, hcharge, -⟩ := preempt_account c profiles j
  simp [Controller.place, hmap, hcharge]

/-- Outside TIER3 a preempting GRANT is placed by first-fit without the holder's room (R64). -/
theorem preempt_placeUnlessTier3 {c : Controller} (h : c.tierInForce ≠ 3) (profiles : Vector Profile 16) (j : SlotIx)
    (ch : Channel) (f : Nat) :
    (c.preempt profiles j).placeUnlessTier3 profiles ch f = (c.detach profiles j).place profiles ch f := by
  simp [Controller.placeUnlessTier3, Controller.atTier3, h, preempt_place]

/-- On a held channel a GRANT that preempts and finds no room, with wait clear, is answered NO_ROOM and leaves the state as it
is: the preempted controller was a trial only (R64, R67). -/
theorem grantHeldChannel_noRoom {a : GrantArgs} {s : State} {holder : SlotIx} (hpreempt : a.preempt = true)
    (hprio : s.ctl.priorityAt holder < a.priority) (hwait : a.wait = false)
    (hplace : (s.ctl.preempt s.config.profiles holder).placeUnlessTier3 s.config.profiles a.channel (footprint a.duty) = none)
    (t : Taken) (slot : SlotIx) :
    grantHeldChannel a t slot holder s = answer t (.noRoom (if s.ctl.atTier3 then .tier3 else .firstFit)) [] s := by
  simp [grantHeldChannel, grantPreempting, hpreempt, hprio, hwait, hplace]

/-- A preempting GRANT whose trial finds no room, with wait clear, is answered and changes nothing else. -/
theorem exec_grant_preempting_noRoom {s : State} {p : Port} {client : Byte} {payload : List Byte} {who : Client}
    {a : GrantArgs} {i j : SlotIx} (hpass : GrantPasses s p client payload who a) (hfree : s.ctl.freeSlot = some i)
    (hholder : s.ctl.holder a.channel = some j) (hpreempt : a.preempt = true) (hprio : s.ctl.priorityAt j < a.priority)
    (hwait : a.wait = false)
    (hplace : (s.ctl.preempt s.config.profiles j).placeUnlessTier3 s.config.profiles a.channel (footprint a.duty) = none) :
    exec (.grant p client payload) s =
      .next (answeredState s p client 0x01 (.noRoom (if s.ctl.atTier3 then .tier3 else .firstFit)) []) := by
  rw [exec_grant_of_holder hpass hfree hholder, grantHeldChannel_noRoom hpreempt (by simpa using hprio) hwait
    (by simpa using hplace), answer_markTaken, markTaken_ctl]

/-- Settles O31: the trial without the holder's room is all a preempting GRANT without wait looks at, and it is not kept. -/
theorem preemptionWithoutRoomRefused : Obligations.PreemptionWithoutRoomRefused := by
  intro s p client payload who a i j gj hpass hlowest hj hholds hch hone hpreempt hprio hwait
  have hfree := freeSlot_of_lowestFree hlowest
  have hholder := holder_of_unique hj hholds hch hone
  have hprioAt : s.ctl.priorityAt j < a.priority := by simpa [Controller.priorityAt, hj] using hprio
  have hanswer := exec_grant_preempting_noRoom hpass hfree hholder hpreempt hprioAt hwait
  constructor
  · intro htier
    have hnone := placeUnlessTier3_of_tier3 (c := s.ctl.preempt s.config.profiles j) (by simpa using htier) s.config.profiles
      a.channel (footprint a.duty)
    simpa [Controller.atTier3, htier] using hanswer hnone
  · intro htier hroom
    have hnone := (preempt_placeUnlessTier3 htier s.config.profiles j a.channel (footprint a.duty)).trans hroom
    simpa [Controller.atTier3, htier] using hanswer hnone

end Sys2Proof.Proofs
end

section
/-! SUPPORT. Which commands write the configuration block: no request on a grant, no read and no event of another block; a
setting's request not in RUN; and those that end RUN. With it GET_PROFILE's answer (R179). -/

namespace Sys2Proof.Proofs

open Sys2Proof Sys2Proof.Machine Sys2Proof.Safety Sys2Proof.Laws

/-! ## The requests on grants leave the configuration -/

@[simp] theorem answerCreated_config (t : Taken) (r : Result) (i : SlotIx) (s : State) :
    (answerCreated t r i s).config = s.config := by
  unfold answerCreated; split <;> simp

@[simp] theorem answerAdjusted_config (t : Taken) (i : SlotIx) (s : State) : (answerAdjusted t i s).config = s.config := by
  unfold answerAdjusted; split <;> simp

/-- A rule on the grant a handle names keeps the configuration if it does so on every grant. -/
theorem withHandle_config {s : State} {body : Nat → SlotIx → Grant → State} (h : ∀ n i g, (body n i g).config = s.config)
    (handle : Option Nat) (t : Taken) : (withHandle handle t body s).config = s.config := by
  unfold withHandle
  split
  · simp
  · split
    · simp
    · split
      · simp
      · exact h _ _ _

theorem ownerOnly_config {s body : State} (h : body.config = s.config) (t : Taken) (g : Grant) :
    (ownerOnly t g body s).config = s.config := by
  unfold ownerOnly; split <;> simp [h]

theorem refuseClosed_config {s body : State} (h : body.config = s.config) (t : Taken) (g : Grant) :
    (refuseClosed t g body s).config = s.config := by
  unfold refuseClosed; split <;> simp [h]

@[simp] theorem grantPreempting_config (a : GrantArgs) (t : Taken) (slot holder : SlotIx) (s : State) :
    (grantPreempting a t slot holder s).config = s.config := by
  unfold grantPreempting
  dsimp only
  split
  · simp
  · split <;> simp

@[simp] theorem grantHeldChannel_config (a : GrantArgs) (t : Taken) (slot holder : SlotIx) (s : State) :
    (grantHeldChannel a t slot holder s).config = s.config := by
  unfold grantHeldChannel
  split
  · simp
  · split <;> simp

@[simp] theorem grantWaiting_config (a : GrantArgs) (t : Taken) (slot : SlotIx) (refusal : NoRoom) (s : State) :
    (grantWaiting a t slot refusal s).config = s.config := by
  unfold grantWaiting; split <;> simp

@[simp] theorem grantFreeChannel_config (a : GrantArgs) (t : Taken) (slot : SlotIx) (s : State) :
    (grantFreeChannel a t slot s).config = s.config := by
  unfold grantFreeChannel
  dsimp only
  split
  · simp
  · split
    · simp
    · split <;> simp

@[simp] theorem grantEvent_config (payload : List Byte) (t : Taken) (s : State) :
    (grantEvent payload t s).config = s.config := by
  unfold grantEvent
  split
  · simp
  · split
    · simp
    · split
      · simp
      · simp
      · split <;> simp

@[simp] theorem adjustWithin_config (a : AdjustArgs) (t : Taken) (i : SlotIx) (g : Grant) (r : Nat) (s : State) :
    (adjustWithin a t i g r s).config = s.config := by
  unfold adjustWithin; dsimp only; split <;> simp

@[simp] theorem adjustGrow_config (a : AdjustArgs) (t : Taken) (i : SlotIx) (g : Grant) (start : Segment) (r : Nat)
    (s : State) : (adjustGrow a t i g start r s).config = s.config := by
  unfold adjustGrow
  dsimp only
  split
  · simp
  · split
    · simp
    · split <;> simp

@[simp] theorem adjustState_config (a : AdjustArgs) (t : Taken) (i : SlotIx) (g : Grant) (s : State) :
    (adjustState a t i g s).config = s.config := by
  unfold adjustState
  split
  · split <;> simp
  · simp

@[simp] theorem adjustEvent_config (payload : List Byte) (t : Taken) (s : State) :
    (adjustEvent payload t s).config = s.config := by
  refine withHandle_config (fun _ i g => ownerOnly_config (refuseClosed_config ?_ t g) t g) _ t
  split
  · simp
  · split <;> simp

@[simp] theorem renewEvent_config (payload : List Byte) (t : Taken) (s : State) :
    (renewEvent payload t s).config = s.config :=
  withHandle_config (fun _ _ g => ownerOnly_config (refuseClosed_config (by simp) t g) t g) _ t

@[simp] theorem releaseEvent_config (payload : List Byte) (t : Taken) (s : State) :
    (releaseEvent payload t s).config = s.config :=
  withHandle_config (fun _ _ g => ownerOnly_config (by simp) t g) _ t

@[simp] theorem ackGrant_config (named : Notices) (h : Nat) (t : Taken) (i : SlotIx) (g : Grant) (s : State) :
    (ackGrant named h t i g s).config = s.config := by
  unfold ackGrant; dsimp only; split <;> simp

@[simp] theorem ackEvent_config (payload : List Byte) (t : Taken) (s : State) :
    (ackEvent payload t s).config = s.config := by
  refine withHandle_config (fun _ _ g => ownerOnly_config ?_ t g) _ t
  split <;> simp

@[simp] theorem retireGrant_config (s : State) (i : SlotIx) (reason : CloseReason) :
    (s.retireGrant i reason).config = s.config := by
  unfold State.retireGrant; dsimp only; split <;> simp

@[simp] theorem revokeEvent_config (payload : List Byte) (t : Taken) (s : State) :
    (revokeEvent payload t s).config = s.config := by
  refine withHandle_config (fun _ _ _ => ?_) _ t
  split <;> simp

@[simp] theorem dropGrants_config (s : State) (client : Client) : (s.dropGrants client).config = s.config := by
  unfold State.dropGrants; dsimp only; split <;> simp

@[simp] theorem dropEvent_config (payload : List Byte) (t : Taken) (s : State) :
    (dropEvent payload t s).config = s.config := by
  unfold dropEvent
  split
  · simp
  · split
    · simp
    · split <;> simp

/-! ## So do the reads and CLEAR_FAULT -/

@[simp] theorem queryEvent_config (payload : List Byte) (t : Taken) (s : State) :
    (queryEvent payload t s).config = s.config :=
  withHandle_config (fun _ _ _ => by simp) _ t

@[simp] theorem listEvent_config (payload : List Byte) (t : Taken) (s : State) :
    (listEvent payload t s).config = s.config := by
  unfold listEvent
  split
  · simp
  · split <;> simp

@[simp] theorem mapReadEvent_config (payload : List Byte) (t : Taken) (s : State) :
    (mapReadEvent payload t s).config = s.config := by
  unfold mapReadEvent
  split
  · simp
  · split <;> simp

@[simp] theorem getProfileEvent_config (payload : List Byte) (t : Taken) (s : State) :
    (getProfileEvent payload t s).config = s.config := by
  unfold getProfileEvent; split <;> simp

@[simp] theorem clearFaultEvent_config (payload : List Byte) (t : Taken) (s : State) :
    (clearFaultEvent payload t s).config = s.config := by
  unfold clearFaultEvent; split <;> simp

/-! ## So do the events one block takes from another -/

@[simp] theorem capture_config (s : State) : s.capture.config = s.config := by
  unfold State.capture; split <;> rfl

@[simp] theorem engineFrame_config (s : State) : s.engineFrame.config = s.config := by
  unfold State.engineFrame
  dsimp only
  split
  · simp
  · simp [State.clearSamples, State.evaluateAll]

@[simp] theorem recomputeTier_config (s : State) : s.recomputeTier.config = s.config := by
  unfold State.recomputeTier; dsimp only; split <;> rfl

@[simp] theorem takeSample_config (s : State) (r : SenseReading) (l : LimitLevels) :
    (s.takeSample r l).config = s.config := by
  simp [State.takeSample]

@[simp] theorem supplyFrame_config (s : State) (r : SenseReading) (l : LimitLevels) :
    (s.supplyFrame r l).config = s.config := by
  unfold State.supplyFrame; dsimp only; split <;> simp

@[simp] theorem tickSlot_config (s : State) (i : SlotIx) : (s.tickSlot i).config = s.config := by
  unfold State.tickSlot
  split
  · rfl
  · split
    · rfl
    · dsimp only; split <;> simp

@[simp] theorem tickAll_config (s : State) : s.tickAll.config = s.config := by
  rw [State.tickAll, settle_config]
  exact foldl_induct (motive := fun x => x.config = s.config) rfl fun x i _ hx => (tickSlot_config x i).trans hx

@[simp] theorem takeLeaseTick_config (s : State) : s.takeLeaseTick.config = s.config := by
  unfold State.takeLeaseTick
  split
  · rfl
  · dsimp only; split <;> simp

@[simp] theorem rampDone_config (s : State) (i : SlotIx) (g : Grant) : (s.rampDone i g).config = s.config := rfl

@[simp] theorem closeChannel_config (s : State) (ch : Channel) : (s.closeChannel ch).config = s.config := by
  unfold State.closeChannel; dsimp only; split <;> simp

@[simp] theorem takeTierChange_config (s : State) : s.takeTierChange.config = s.config := by
  unfold State.takeTierChange
  dsimp only
  split
  · rfl
  · split
    · simp
    · split
      · simp [State.tierDrop]
      · simp [State.tierRise]

@[simp] theorem applyPlan_config (s : State) : s.applyPlan.config = s.config := by
  unfold State.applyPlan; split <;> simp

/-! ## The settings' requests are refused in RUN -/

theorem setProfileEvent_running {s : State} (h : s.running = true) (payload : List Byte) (t : Taken) :
    setProfileEvent payload t s = answer t .wrongMode [] s := by simp [setProfileEvent, h]
theorem setTiersEvent_running {s : State} (h : s.running = true) (payload : List Byte) (t : Taken) :
    setTiersEvent payload t s = answer t .wrongMode [] s := by simp [setTiersEvent, h]
theorem setMonitorEvent_running {s : State} (h : s.running = true) (payload : List Byte) (t : Taken) :
    setMonitorEvent payload t s = answer t .wrongMode [] s := by simp [setMonitorEvent, h]
theorem setFrameEvent_running {s : State} (h : s.running = true) (payload : List Byte) (t : Taken) :
    setFrameEvent payload t s = answer t .wrongMode [] s := by simp [setFrameEvent, h]
theorem startEvent_running {s : State} (h : s.running = true) (t : Taken) :
    startEvent t s = answer t .wrongMode [] s := by simp [startEvent, h]

/-- In CONFIG a SET_PROFILE with its arguments in range replaces the channel's whole profile (R178). -/
theorem setProfileEvent_written {s : State} {payload : List Byte} {ch : Channel} {profile : Profile}
    (hmode : s.running = false) (hread : readSetProfile payload = some (ch, profile)) (t : Taken) :
    (setProfileEvent payload t s).config = { s.config with profiles := s.config.profiles.set ch profile } := by
  simp [setProfileEvent, hmode, hread]

/-! ## STOP, CLEAR and the hard reset end RUN -/

@[simp] theorem stopAll_mode (s : State) : s.stopAll.config.mode = .config := rfl
@[simp] theorem clearPart_config (s : State) : s.clearPart.config = Configuration.reset := rfl

theorem stopEvent_running {s : State} (h : s.running = true) (t : Taken) :
    stopEvent t s = answer t .ok (put8 s.ctl.occupied) s.stopAll := by simp [stopEvent, h]

/-- A CLEAR brings the whole configuration block back to its hard reset values (R175). -/
@[simp] theorem clearEvent_config (t : Taken) (s : State) : (clearEvent t s).config = Configuration.reset := by
  simp [clearEvent]

/-! ## What a command does to the configuration in RUN -/

/-- The configuration stands as in `s`, or the device has left RUN. -/
def KeepsConfigInRun (s t : State) : Prop := t.config = s.config ∨ t.config.mode = .config

/-- If the command has a next state, that state keeps the configuration of `s` or is out of RUN. -/
def NextKeepsConfig (s : State) (o : Host.Outcome State Fault Refusal) : Prop := ∀ t, o = .next t → KeepsConfigInRun s t

theorem nextKeepsConfig_next {s t : State} : NextKeepsConfig s (.next t) ↔ KeepsConfigInRun s t :=
  ⟨fun h => h t rfl, fun h _ ht => by cases ht; exact h⟩

/-- A next state with the same configuration keeps it. -/
theorem nextKeepsConfig_of_eq {s t : State} (h : t.config = s.config) : NextKeepsConfig s (.next t) :=
  nextKeepsConfig_next.2 (.inl h)

theorem nextKeepsConfig_ite {s : State} {p : Prop} [Decidable p] {o o' : Host.Outcome State Fault Refusal}
    (h : NextKeepsConfig s o) (h' : NextKeepsConfig s o') : NextKeepsConfig s (if p then o else o') := by
  split
  · exact h
  · exact h'

/-- A request that is not taken or is refused keeps the configuration; one that is served does so if its own rule, which is
judged in the mode of `s`, does. -/
theorem request_nextKeepsConfig {s : State} {body : Taken → State → State} (p : Port) (client code : Byte)
    (payload : List Byte) (h : ∀ t s', s'.config = s.config → KeepsConfigInRun s' (body t s')) :
    NextKeepsConfig s (.next (runRequest p client code payload body s)) := by
  rw [nextKeepsConfig_next]
  rcases runRequest_cases s p client code payload body with ⟨-, heq⟩ | ⟨-, r, heq⟩ | ⟨who, -, heq⟩ <;> rw [heq]
  · exact .inl rfl
  · exact .inl (setPort_config _ _ _)
  · have hkept := h ⟨p, who, client, code⟩ (s.markTaken p ⟨client, code, payload⟩) (markTaken_config _ _ _)
    rwa [KeepsConfigInRun, markTaken_config] at hkept

/-- A request whose rule keeps the configuration in every state. -/
theorem plainRequest_nextKeepsConfig {body : Taken → State → State} (h : ∀ t s, (body t s).config = s.config) (s : State)
    (p : Port) (client code : Byte) (payload : List Byte) :
    NextKeepsConfig s (.next (runRequest p client code payload body s)) :=
  request_nextKeepsConfig p client code payload fun t s' _ => .inl (h t s')

/-- A request whose rule answers WRONG_MODE in RUN. -/
theorem settingRequest_nextKeepsConfig {s : State} {body : Taken → State → State} (hrun : s.config.mode = .run)
    (h : ∀ (t : Taken) (s' : State), s'.running = true → body t s' = answer t .wrongMode [] s') (p : Port)
    (client code : Byte) (payload : List Byte) : NextKeepsConfig s (.next (runRequest p client code payload body s)) :=
  request_nextKeepsConfig p client code payload fun t s' hs =>
    .inl (by rw [h t s' (by simp [State.running, hs, hrun]), answer_config])

/-- A request whose rule takes the device out of RUN. -/
theorem leavingRequest_nextKeepsConfig {s : State} {body : Taken → State → State} (hrun : s.config.mode = .run)
    (h : ∀ (t : Taken) (s' : State), s'.running = true → (body t s').config.mode = .config) (p : Port)
    (client code : Byte) (payload : List Byte) : NextKeepsConfig s (.next (runRequest p client code payload body s)) :=
  request_nextKeepsConfig p client code payload fun t s' hs => .inr (h t s' (by simp [State.running, hs, hrun]))

/-! ## The transactions and the events, one by one -/

theorem requestTransaction_nextKeepsConfig (mosi : List Byte) (s : State) :
    NextKeepsConfig s (execRequestTransaction mosi s) :=
  nextKeepsConfig_ite (nextKeepsConfig_of_eq rfl) (nextKeepsConfig_ite (nextKeepsConfig_of_eq rfl) (nextKeepsConfig_of_eq rfl))

theorem readTransaction_nextKeepsConfig (n : Nat) (s : State) : NextKeepsConfig s (execReadTransaction n s) :=
  nextKeepsConfig_ite (nextKeepsConfig_of_eq rfl) (nextKeepsConfig_ite (nextKeepsConfig_of_eq rfl) (nextKeepsConfig_of_eq rfl))

theorem unknownTransactionKind_nextKeepsConfig (kind : Byte) (n : Nat) (s : State) :
    NextKeepsConfig s (execUnknownTransactionKind kind n s) :=
  nextKeepsConfig_ite (nextKeepsConfig_of_eq rfl) (nextKeepsConfig_ite (nextKeepsConfig_of_eq rfl) (nextKeepsConfig_of_eq rfl))

theorem i2cWriteTransaction_nextKeepsConfig (address : BitVec 7) (bytes : List Byte) (s : State) :
    NextKeepsConfig s (execI2cWriteTransaction address bytes s) :=
  nextKeepsConfig_ite (nextKeepsConfig_of_eq rfl) (nextKeepsConfig_ite (nextKeepsConfig_of_eq rfl)
    (nextKeepsConfig_ite (nextKeepsConfig_of_eq rfl) (nextKeepsConfig_of_eq rfl)))

theorem i2cReadTransaction_nextKeepsConfig (address : BitVec 7) (n : Nat) (s : State) :
    NextKeepsConfig s (execI2cReadTransaction address n s) :=
  nextKeepsConfig_ite (nextKeepsConfig_of_eq rfl) (nextKeepsConfig_ite (nextKeepsConfig_of_eq rfl)
    (nextKeepsConfig_ite (nextKeepsConfig_of_eq rfl) (nextKeepsConfig_of_eq rfl)))

theorem unknownRequest_nextKeepsConfig (s : State) (p : Port) (client code : Byte) (payload : List Byte) :
    NextKeepsConfig s (execUnknownRequest p client code payload s) :=
  nextKeepsConfig_ite (nextKeepsConfig_of_eq rfl)
    (plainRequest_nextKeepsConfig (fun _ _ => answer_config _ _ _ _) s p client code payload)

theorem frameStart_nextKeepsConfig (s : State) : NextKeepsConfig s (execFrameStart s) :=
  nextKeepsConfig_ite (nextKeepsConfig_of_eq rfl) (nextKeepsConfig_of_eq rfl)

theorem stepCounterAdvance_nextKeepsConfig (s : State) : NextKeepsConfig s (execStepCounterAdvance s) :=
  nextKeepsConfig_ite (nextKeepsConfig_of_eq rfl) (nextKeepsConfig_ite (nextKeepsConfig_of_eq rfl) (nextKeepsConfig_of_eq rfl))

theorem channelBecomesFaulted_nextKeepsConfig (ch : Channel) (s : State) :
    NextKeepsConfig s (execChannelBecomesFaulted ch s) :=
  nextKeepsConfig_ite (nextKeepsConfig_of_eq (engineFrame_config s)) (nextKeepsConfig_of_eq rfl)

theorem readbackSample_nextKeepsConfig (ch : Channel) (pinHigh : Bool) (s : State) :
    NextKeepsConfig s (execReadbackSample ch pinHigh s) :=
  nextKeepsConfig_ite (nextKeepsConfig_of_eq rfl) (nextKeepsConfig_ite (nextKeepsConfig_of_eq rfl)
    (nextKeepsConfig_ite (nextKeepsConfig_of_eq rfl) (nextKeepsConfig_of_eq rfl)))

theorem downDebounce_nextKeepsConfig (r : SenseReading) (l : LimitLevels) (s : State) :
    NextKeepsConfig s (execDownDebounce r l s) :=
  nextKeepsConfig_ite (nextKeepsConfig_of_eq (supplyFrame_config s r l)) (nextKeepsConfig_of_eq rfl)

theorem upHoldOff_nextKeepsConfig (r : SenseReading) (l : LimitLevels) (s : State) :
    NextKeepsConfig s (execUpHoldOff r l s) :=
  nextKeepsConfig_ite (nextKeepsConfig_of_eq (supplyFrame_config s r l)) (nextKeepsConfig_of_eq rfl)

theorem leaseExpiry_nextKeepsConfig (i : SlotIx) (s : State) : NextKeepsConfig s (execLeaseExpiry i s) :=
  nextKeepsConfig_ite (nextKeepsConfig_of_eq (takeLeaseTick_config s)) (nextKeepsConfig_of_eq rfl)

theorem rampComplete_nextKeepsConfig (handle duty : Nat) (s : State) : NextKeepsConfig s (execRampComplete handle duty s) := by
  unfold execRampComplete
  split
  · dsimp only
    split
    · split <;> exact nextKeepsConfig_of_eq rfl
    · exact nextKeepsConfig_of_eq rfl
  · exact nextKeepsConfig_of_eq rfl

theorem channelFault_nextKeepsConfig (ch : Channel) (s : State) : NextKeepsConfig s (execChannelFault ch s) :=
  nextKeepsConfig_ite (nextKeepsConfig_ite (nextKeepsConfig_of_eq (closeChannel_config _ ch)) (nextKeepsConfig_of_eq rfl))
    (nextKeepsConfig_of_eq rfl)

theorem tierChange_nextKeepsConfig (s : State) : NextKeepsConfig s (execTierChange s) := by
  unfold execTierChange; split <;> exact nextKeepsConfig_of_eq (by simp)

theorem planComplete_nextKeepsConfig (serial : Byte) (s : State) : NextKeepsConfig s (execPlanComplete serial s) :=
  nextKeepsConfig_ite (nextKeepsConfig_ite (nextKeepsConfig_of_eq rfl) (nextKeepsConfig_of_eq rfl)) (nextKeepsConfig_of_eq rfl)

theorem planFailed_nextKeepsConfig (serial : Byte) (s : State) : NextKeepsConfig s (execPlanFailed serial s) := by
  unfold execPlanFailed
  split
  · dsimp only
    split
    · split <;> exact nextKeepsConfig_of_eq (by simp [State.dropPlanEvent])
    · exact nextKeepsConfig_of_eq rfl
  · exact nextKeepsConfig_of_eq rfl

theorem repackApply_nextKeepsConfig (s : State) : NextKeepsConfig s (execRepackApply s) := by
  unfold execRepackApply
  dsimp only
  split
  · exact nextKeepsConfig_of_eq (by simp)
  · split <;> exact nextKeepsConfig_of_eq (by simp)

theorem resetEnd_nextKeepsConfig (addr1 addr0 onWireA onWireB : Bool) (s : State) :
    NextKeepsConfig s (execResetEnd addr1 addr0 onWireA onWireB s) :=
  nextKeepsConfig_ite (nextKeepsConfig_of_eq rfl) (nextKeepsConfig_of_eq rfl)

/-! ## Every command -/

/-- In RUN a command keeps the whole configuration block, or ends RUN. -/
theorem exec_nextKeepsConfig {s : State} (hrun : s.config.mode = .run) (c : Instr) : NextKeepsConfig s (exec c s) := by
  cases c with
  | requestTransaction mosi => exact requestTransaction_nextKeepsConfig mosi s
  | readTransaction n => exact readTransaction_nextKeepsConfig n s
  | i2cWriteTransaction address bytes => exact i2cWriteTransaction_nextKeepsConfig address bytes s
  | i2cReadTransaction address n => exact i2cReadTransaction_nextKeepsConfig address n s
  | unknownTransactionKind kind n => exact unknownTransactionKind_nextKeepsConfig kind n s
  | unknownRequest p client code pl => exact unknownRequest_nextKeepsConfig s p client code pl
  | grant p client pl => exact plainRequest_nextKeepsConfig (grantEvent_config pl) s p client _ pl
  | adjust p client pl => exact plainRequest_nextKeepsConfig (adjustEvent_config pl) s p client _ pl
  | renew p client pl => exact plainRequest_nextKeepsConfig (renewEvent_config pl) s p client _ pl
  | release p client pl => exact plainRequest_nextKeepsConfig (releaseEvent_config pl) s p client _ pl
  | ack p client pl => exact plainRequest_nextKeepsConfig (ackEvent_config pl) s p client _ pl
  | revoke p client pl => exact plainRequest_nextKeepsConfig (revokeEvent_config pl) s p client _ pl
  | dropClient p client pl => exact plainRequest_nextKeepsConfig (dropEvent_config pl) s p client _ pl
  | query p client pl => exact plainRequest_nextKeepsConfig (queryEvent_config pl) s p client _ pl
  | list p client pl => exact plainRequest_nextKeepsConfig (listEvent_config pl) s p client _ pl
  | mapRead p client pl => exact plainRequest_nextKeepsConfig (mapReadEvent_config pl) s p client _ pl
  | clearFault p client pl => exact plainRequest_nextKeepsConfig (clearFaultEvent_config pl) s p client _ pl
  | status p client pl => exact plainRequest_nextKeepsConfig (fun _ _ => answer_config _ _ _ _) s p client _ pl
  | getProfile p client pl => exact plainRequest_nextKeepsConfig (getProfileEvent_config pl) s p client _ pl
  | setProfile p client pl =>
    exact settingRequest_nextKeepsConfig hrun (fun t _ h => setProfileEvent_running h pl t) p client _ pl
  | setTiers p client pl =>
    exact settingRequest_nextKeepsConfig hrun (fun t _ h => setTiersEvent_running h pl t) p client _ pl
  | setMonitor p client pl =>
    exact settingRequest_nextKeepsConfig hrun (fun t _ h => setMonitorEvent_running h pl t) p client _ pl
  | setFrame p client pl =>
    exact settingRequest_nextKeepsConfig hrun (fun t _ h => setFrameEvent_running h pl t) p client _ pl
  | start p client pl => exact settingRequest_nextKeepsConfig hrun (fun t _ h => startEvent_running h t) p client _ pl
  | stop p client pl =>
    exact leavingRequest_nextKeepsConfig hrun (fun t _ h => by simp [stopEvent_running h]) p client _ pl
  | clear p client pl =>
    exact leavingRequest_nextKeepsConfig hrun (fun t s' _ => by rw [clearEvent_config]; rfl) p client _ pl
  | frameStart => exact frameStart_nextKeepsConfig s
  | engineFrameStart => exact nextKeepsConfig_of_eq (engineFrame_config s)
  | channelBecomesFaulted ch => exact channelBecomesFaulted_nextKeepsConfig ch s
  | readbackSample ch high => exact readbackSample_nextKeepsConfig ch high s
  | sample r l => exact nextKeepsConfig_of_eq (supplyFrame_config s r l)
  | downDebounce r l => exact downDebounce_nextKeepsConfig r l s
  | upHoldOff r l => exact upHoldOff_nextKeepsConfig r l s
  | leaseTick => exact nextKeepsConfig_of_eq (takeLeaseTick_config s)
  | leaseExpiry i => exact leaseExpiry_nextKeepsConfig i s
  | rampComplete handle duty => exact rampComplete_nextKeepsConfig handle duty s
  | channelFault ch => exact channelFault_nextKeepsConfig ch s
  | tierChange => exact tierChange_nextKeepsConfig s
  | planComplete serial => exact planComplete_nextKeepsConfig serial s
  | planFailed serial => exact planFailed_nextKeepsConfig serial s
  | repackApply => exact repackApply_nextKeepsConfig s
  | hardReset => exact nextKeepsConfig_next.2 (.inr rfl)
  | resetEnd a1 a0 wa wb => exact resetEnd_nextKeepsConfig a1 a0 wa wb s
  | stepCounterAdvance => exact stepCounterAdvance_nextKeepsConfig s

/-- A command that does not end RUN keeps the whole configuration block. -/
theorem config_of_exec_in_run {c : Instr} {s t : State} (h : exec c s = .next t) (hrun : s.config.mode = .run)
    (hstays : t.config.mode = .run) : t.config = s.config := by
  rcases exec_nextKeepsConfig hrun c t h with hkept | hleft
  · exact hkept
  · simp [hstays] at hleft

/-! ## GET_PROFILE (R179) -/

theorem channelOf_of_gt {b : Byte} (h : 15 < b.toNat) : channelOf b = none :=
  dif_neg (by omega)

theorem channelOf_of_val {b : Byte} {ch : Channel} (h : ch.val = b.toNat) : channelOf b = some ch := by
  have hlt : b.toNat < 16 := h ▸ ch.isLt
  simp only [channelOf, hlt, dite_true, Option.some.injEq]
  exact Fin.ext h.symm

/-- The profile record's bytes with each flag at its bit (R199). -/
theorem profileRecord_flags (q : Profile) :
    profileRecord q = put8 ((if q.enabled then 1 else 0) + (if q.drive = .openDrain then 2 else 0) +
      (if q.polarity = .activeLow then 4 else 0) + (if q.pinned then 8 else 0) + (if q.readback then 16 else 0)) ++
      put8 q.current ++ put16 q.maxDuty ++ put8 q.home.val ++ put8 q.defaultRamp := by
  simp only [profileRecord, Bool.toNat, Bool.cond_eq_ite, mul_ite, mul_one, mul_zero]

theorem exec_getProfile_badArg {s : State} {p : Port} {client number : Byte} {who : Client}
    (h : Served s p client 0x14 [number] who) (hnumber : 15 < number.toNat) :
    exec (.getProfile p client [number]) s = .next (answeredState s p client 0x14 .badArg []) := by
  have hexec : exec (.getProfile p client [number]) s = execGetProfile p client [number] s := rfl
  rw [hexec, execGetProfile, runRequest_served h, getProfileEvent]
  simp only [readChannel, channelOf_of_gt hnumber, answer_markTaken]

theorem exec_getProfile_read {s : State} {p : Port} {client number : Byte} {who : Client} {ch : Channel}
    (h : Served s p client 0x14 [number] who) (hch : ch.val = number.toNat) :
    exec (.getProfile p client [number]) s =
      .next (answeredState s p client 0x14 .ok ([number] ++ profileRecord s.config.profiles[ch])) := by
  have hexec : exec (.getProfile p client [number]) s = execGetProfile p client [number] s := rfl
  have hbyte : put8 ch.val = [number] := by simp [put8, hch]
  rw [hexec, execGetProfile, runRequest_served h, getProfileEvent]
  simp only [readChannel, channelOf_of_val hch, answer_markTaken, markTaken_config, hbyte]

/-! ## The last write is the one read -/

theorem exec_setProfile_written {s : State} {p : Port} {client : Byte} {payload : List Byte} {who : Client} {ch : Channel}
    {profile : Profile} (h : Served s p client 0x20 payload who) (hmode : s.config.mode = .config)
    (hread : readSetProfile payload = some (ch, profile)) :
    ∃ t, exec (.setProfile p client payload) s = .next t ∧
      t.config = { s.config with profiles := s.config.profiles.set ch profile } := by
  refine ⟨_, rfl, ?_⟩
  rw [runRequest_served h, setProfileEvent_written (by simp [State.running, hmode]) hread, markTaken_config]

theorem exec_clear_config {s : State} {p : Port} {client : Byte} {who : Client} (h : Served s p client 0x2A [] who) :
    ∃ t, exec (.clear p client []) s = .next t ∧ t.config = Configuration.reset := by
  refine ⟨_, rfl, ?_⟩
  rw [runRequest_served h, clearEvent_config]

/-- Settles O22: the answer is the record as it stands, in RUN only a command that ends RUN writes the configuration, and
SET_PROFILE and CLEAR leave what they write. -/
theorem getProfileReads : Obligations.GetProfileReads := by
  refine ⟨fun s p client number who hserved => ⟨exec_getProfile_badArg hserved, fun ch hch => ?_⟩,
    fun c s t h hrun hstays => by rw [config_of_exec_in_run h hrun hstays], ?_, ?_⟩
  · simp only [exec_getProfile_read hserved hch, profileRecord_flags, List.append_assoc]
  · intro s p client payload who ch profile hserved hmode hread
    obtain ⟨t, hexec, hconfig⟩ := exec_setProfile_written hserved hmode hread
    exact ⟨t, hexec, by simp [hconfig]⟩
  · intro s p client who hserved
    obtain ⟨t, hexec, hconfig⟩ := exec_clear_config hserved
    exact ⟨t, hexec, fun ch => by simp [hconfig, Configuration.reset, Profile.reset]⟩

end Sys2Proof.Proofs
end

section
/-! SUPPORT. The common checks one by one: the client byte against the port, the row of the request table a code has, what each
row refuses, and the command of every code as one run of these checks (R194, R198). -/

namespace Sys2Proof.Proofs

open Sys2Proof Sys2Proof.Machine Sys2Proof.Safety Sys2Proof.Laws

/-! ## Check 1: the client byte -/

/-- The client byte names a client of the port: 0 to 3 on Port A, 4 to 7 on Port B (R194). -/
def ClientByteOnPort (p : Port) (client : Byte) : Prop :=
  match p with
  | .a => client.toNat < 4
  | .b => 4 ≤ client.toNat ∧ client.toNat < 8

theorem clientOnPort_eq_some_iff {p : Port} {client : Byte} {who : Client} :
    clientOnPort p client = some who ↔ clientOf client = some who ∧ clientPort who = p := by
  unfold clientOnPort
  cases clientOf client with
  | none => simp
  | some c =>
    by_cases hc : clientPort c = p
    · simp only [hc, if_true, Option.some.injEq]
      exact ⟨fun h => ⟨h, h ▸ hc⟩, fun h => h.1⟩
    · simp only [hc, if_false, Option.some.injEq, reduceCtorEq, false_iff, not_and]
      exact fun h => h ▸ hc

theorem clientOf_eq_some_iff {client : Byte} {who : Client} : clientOf client = some who ↔ who.val = client.toNat := by
  have hlt := who.isLt
  unfold clientOf
  split
  · simp [Fin.ext_iff, eq_comm]
  · simp only [reduceCtorEq, false_iff]; omega

/-- A client's own port is the one its byte is on. -/
theorem clientPort_eq_iff {p : Port} {client : Byte} {who : Client} (h : who.val = client.toNat) :
    clientPort who = p ↔ ClientByteOnPort p client := by
  have hlt : who.val < 8 := who.isLt
  cases p with
  | a => simp [clientPort, ClientByteOnPort, h]
  | b => simp only [clientPort, ClientByteOnPort, h, ite_eq_right_iff, reduceCtorEq, imp_false]; omega

theorem clientOnPort_of_onPort {p : Port} {client : Byte} (h : ClientByteOnPort p client) :
    ∃ who : Client, who.val = client.toNat ∧ clientOnPort p client = some who := by
  have hlt : client.toNat < 8 := by cases p <;> simp only [ClientByteOnPort] at h <;> omega
  have hval : (⟨client.toNat, hlt⟩ : Client).val = client.toNat := rfl
  exact ⟨_, hval, clientOnPort_eq_some_iff.2 ⟨clientOf_eq_some_iff.2 hval, (clientPort_eq_iff hval).2 h⟩⟩

theorem clientOnPort_of_not_onPort {p : Port} {client : Byte} (h : ¬ ClientByteOnPort p client) :
    clientOnPort p client = none := by
  refine Option.eq_none_iff_forall_ne_some.2 fun who hwho => ?_
  obtain ⟨hof, hport⟩ := clientOnPort_eq_some_iff.1 hwho
  exact h ((clientPort_eq_iff (clientOf_eq_some_iff.1 hof)).1 hport)

/-- Client 0 is the one whose byte is 0. -/
theorem client_eq_zero_iff {client : Byte} {who : Client} (h : who.val = client.toNat) : who = 0 ↔ client = 0 := by
  rw [Fin.ext_iff, h, ← BitVec.toNat_inj]
  rfl

/-! ## Checks 2 to 4: the row of the request table -/

/-- The codes of the request table with their payload sizes (R198). -/
def codeSizes : List (Byte × Nat) := requestTable.map fun row => (row.code, row.size)

/-- The codes only the supervisor may use (R198). -/
def supervisorCodes : List Byte := (requestTable.filter (·.supervisorOnly)).map (·.code)

theorem mem_codeSizes_iff {code : Byte} {n : Nat} :
    (code, n) ∈ codeSizes ↔ ∃ row ∈ requestTable, row.code = code ∧ row.size = n := by
  simp only [codeSizes, List.mem_map, Prod.mk.injEq]

theorem mem_supervisorCodes_iff {code : Byte} :
    code ∈ supervisorCodes ↔ ∃ row ∈ requestTable, row.supervisorOnly = true ∧ row.code = code := by
  simp only [supervisorCodes, List.mem_map, List.mem_filter, and_assoc]

/-- No two rows of the request table share a code. -/
theorem requestTable_find_code : ∀ row ∈ requestTable, requestTable.find? (fun r => r.code == row.code) = some row := by
  decide

theorem requestRefusal_of_row {row : RequestRow} (hrow : row ∈ requestTable) (who : Client) (payload : List Byte) :
    requestRefusal who row.code payload =
      if row.supervisorOnly = true ∧ who ≠ 0 then some .notPermitted
      else if payload.length ≠ row.size then some .badArg else none := by
  simp [requestRefusal, requestTable_find_code row hrow]

theorem requestRefusal_unknown {code : Byte} (h : ∀ row ∈ requestTable, row.code ≠ code) (who : Client)
    (payload : List Byte) : requestRefusal who code payload = some .unknownRequest := by
  have hnone : requestTable.find? (fun row => row.code == code) = none := List.find?_eq_none.2 (by simpa using h)
  simp [requestRefusal, hnone]

theorem requestRefusal_notPermitted {row : RequestRow} (hrow : row ∈ requestTable) (hsup : row.supervisorOnly = true)
    {who : Client} (hwho : who ≠ 0) (payload : List Byte) :
    requestRefusal who row.code payload = some .notPermitted := by
  rw [requestRefusal_of_row hrow, if_pos ⟨hsup, hwho⟩]

/-- A code of the table that the client may use is judged by the payload size alone. -/
theorem requestRefusal_permitted {row : RequestRow} (hrow : row ∈ requestTable) {who : Client}
    (hpermit : row.supervisorOnly = true → who = 0) (payload : List Byte) :
    requestRefusal who row.code payload = if payload.length ≠ row.size then some .badArg else none := by
  rw [requestRefusal_of_row hrow, if_neg fun ⟨hsup, hwho⟩ => hwho (hpermit hsup)]

/-! ## The command of every code runs the checks -/

theorem requestCommand_unknown {code : Byte} (h : code ∉ knownCodes) (p : Port) (client : Byte) (payload : List Byte) :
    requestCommand p client code payload = .unknownRequest p client code payload := by
  simp only [knownCodes, List.mem_cons, List.not_mem_nil, or_false, not_or] at h
  simp only [requestCommand, h, if_false]

/-- A code outside the table has no rule of its own: past the common checks it is answered UNKNOWN_REQUEST. -/
theorem exec_unknownRequest {code : Byte} (h : code ∉ knownCodes) (s : State) (p : Port) (client : Byte)
    (payload : List Byte) :
    exec (.unknownRequest p client code payload) s =
      .next (runRequest p client code payload (fun t => answer t .unknownRequest []) s) :=
  if_neg (by simpa using h)

/-- Whatever the code, the request's command is the common checks and then some rule of its own. -/
theorem exec_requestCommand (s : State) (p : Port) (client code : Byte) (payload : List Byte) :
    ∃ body, exec (requestCommand p client code payload) s = .next (runRequest p client code payload body s) := by
  by_cases hknown : code ∈ knownCodes
  · simp only [knownCodes, List.mem_cons, List.not_mem_nil, or_false] at hknown
    rcases hknown with rfl | rfl | rfl | rfl | rfl | rfl | rfl | rfl | rfl | rfl | rfl | rfl | rfl | rfl | rfl | rfl | rfl |
      rfl | rfl | rfl
    all_goals exact ⟨_, rfl⟩
  · rw [requestCommand_unknown hknown]
    exact ⟨_, exec_unknownRequest hknown s p client payload⟩

section
variable {s : State} {p : Port} {client code : Byte} {payload : List Byte}

theorem exec_requestCommand_badClient (h : Takes s p client code payload) (hoff : ¬ ClientByteOnPort p client) :
    exec (requestCommand p client code payload) s = .next (answeredState s p client code .badClient []) := by
  obtain ⟨body, hexec⟩ := exec_requestCommand s p client code payload
  rw [hexec, runRequest_badClient h (clientOnPort_of_not_onPort hoff)]

theorem exec_requestCommand_refused {who : Client} {r : Result} (h : Takes s p client code payload)
    (hc : clientOnPort p client = some who) (hr : requestRefusal who code payload = some r) :
    exec (requestCommand p client code payload) s = .next (answeredState s p client code r []) := by
  obtain ⟨body, hexec⟩ := exec_requestCommand s p client code payload
  rw [hexec, runRequest_refused h hc hr]

theorem exec_requestCommand_unknown (h : Takes s p client code payload) (hon : ClientByteOnPort p client)
    (hcode : ∀ n, (code, n) ∉ codeSizes) :
    exec (requestCommand p client code payload) s = .next (answeredState s p client code .unknownRequest []) := by
  obtain ⟨who, -, hwho⟩ := clientOnPort_of_onPort hon
  refine exec_requestCommand_refused h hwho (requestRefusal_unknown (fun row hrow heq => ?_) who payload)
  exact hcode row.size (mem_codeSizes_iff.2 ⟨row, hrow, heq, rfl⟩)

theorem exec_requestCommand_notPermitted (h : Takes s p client code payload) (hon : ClientByteOnPort p client)
    (honly : code ∈ supervisorCodes) (hclient : client ≠ 0) :
    exec (requestCommand p client code payload) s = .next (answeredState s p client code .notPermitted []) := by
  obtain ⟨who, hval, hwho⟩ := clientOnPort_of_onPort hon
  obtain ⟨row, hrow, hsup, rfl⟩ := mem_supervisorCodes_iff.1 honly
  exact exec_requestCommand_refused h hwho
    (requestRefusal_notPermitted hrow hsup (mt (client_eq_zero_iff hval).1 hclient) payload)

/-- Past the first three checks the payload's size alone decides. -/
theorem permitted_badArg_or_served {n : Nat} (h : Takes s p client code payload) (hon : ClientByteOnPort p client)
    (hsize : (code, n) ∈ codeSizes) (hpermit : code ∈ supervisorCodes → client = 0) :
    (payload.length ≠ n →
      exec (requestCommand p client code payload) s = .next (answeredState s p client code .badArg [])) ∧
    (payload.length = n → ∃ who : Client, who.val = client.toNat ∧ Served s p client code payload who) := by
  obtain ⟨who, hval, hwho⟩ := clientOnPort_of_onPort hon
  obtain ⟨row, hrow, rfl, rfl⟩ := mem_codeSizes_iff.1 hsize
  have hallowed : row.supervisorOnly = true → who = 0 := fun hsup =>
    (client_eq_zero_iff hval).2 (hpermit (mem_supervisorCodes_iff.2 ⟨row, hrow, hsup, rfl⟩))
  have hrefusal := requestRefusal_permitted hrow hallowed payload
  exact ⟨fun hlen => exec_requestCommand_refused h hwho (hrefusal.trans (if_pos hlen)),
    fun hlen => ⟨who, hval, h, hwho, hrefusal.trans (if_neg (not_not.2 hlen))⟩⟩

end

/-- Settles O18: the statement's two lists are the columns of the request table, and each check's refusal is read off the
row of the request's code. -/
theorem commonChecksInOrder : Obligations.CommonChecksInOrder :=
  ⟨fun _ _ _ _ _ htake =>
    ⟨fun hoff => exec_requestCommand_badClient htake hoff,
      fun hon hcode => exec_requestCommand_unknown htake hon hcode,
      fun hon honly hclient => exec_requestCommand_notPermitted htake hon honly hclient,
      fun _ hon hsize hpermit => permitted_badArg_or_served htake hon hsize hpermit⟩,
    rfl, rfl, rfl, rfl⟩

end Sys2Proof.Proofs
end

section
/-! SUPPORT. The moves of which every command is made: each says what it does to configuration, controller and plan, and what the
command has checked before it. A law kept by each move is kept by every command. -/

namespace Sys2Proof.Proofs

open Sys2Proof Sys2Proof.Machine Sys2Proof.Safety Sys2Proof.Laws

/-! ## The moves -/

/-- Steps 1 to 7 of R51 let a GRANT with these arguments, of this client, take this slot. -/
structure GrantAllowed (s : State) (a : GrantArgs) (who : Client) (i : SlotIx) : Prop where
  running : s.config.mode = .run
  idle : s.ctl.inFlight = false
  free : s.ctl.grantAt i = none
  duty : a.duty ≤ 2048
  bound : a.duty ≤ s.config.profiles[a.channel].maxDuty
  single : s.ctl.hasLiving who a.channel = false

/-- The controller in which a GRANT's channel is free: it had no holder, or its holder has been preempted (R56, R65). -/
inductive Cleared (s : State) (ch : Channel) : Controller → Prop
  | free (none : s.ctl.holder ch = none) : Cleared s ch s.ctl
  | preempted {j : SlotIx} (holder : s.ctl.holder ch = some j) : Cleared s ch (s.ctl.preempt s.config.profiles j)

/-- The record is rewritten without a move: state, owner, channel, priority and present duty stay. -/
structure SameStanding (g g' : Grant) : Prop where
  state : g'.state = g.state
  owner : g'.owner = g.owner
  channel : g'.channel = g.channel
  priority : g'.priority = g.priority
  present : g'.presentDuty = g.presentDuty

/-- The target duty stays, or the new one passes the checks of an ADJUST within the reservation (R102). -/
def TargetAllowed (profiles : Vector Profile 16) (g g' : Grant) : Prop :=
  g'.targetDuty = g.targetDuty ∨
    (g'.targetDuty ≤ 2048 ∧ g'.targetDuty ≤ profiles[g.channel].maxDuty ∧
      (g.isActive = true → footprint g'.targetDuty ≤ g.room))

/-- One move. Where `frees` fails no slot becomes FREE; where it holds no grant is created. -/
inductive Move (frees : Prop) : State → State → Prop
  /-- Configuration, controller (but for the summaries) and planner stay. -/
  | quiet {s t : State} (config : t.config = s.config) (ctl : SameButSummaries t.ctl s.ctl) (planner : t.planner = s.planner)
      (pending : t.pending = s.pending) (preferred : t.preferred = s.preferred)
      (ports : PortsConsistent s → PortsConsistent t) (faults : FaultPairing s → FaultPairing t) : Move frees s t
  | createActive {s : State} {a : GrantArgs} {who : Client} {i : SlotIx} {c : Controller} {start : Segment}
      (allowed : GrantAllowed s a who i) (cleared : Cleared s a.channel c)
      (fit : c.placeUnlessTier3 s.config.profiles a.channel (footprint a.duty) = some start)
      (creates : ¬ frees) : Move frees s (s.withCtl (c.createActive s.config.profiles a who i start))
  | createDeferred {s : State} {a : GrantArgs} {who : Client} {i : SlotIx} {c : Controller}
      (allowed : GrantAllowed s a who i) (cleared : Cleared s a.channel c) (creates : ¬ frees) :
      Move frees s (s.withCtl (c.createWaiting s.config.profiles a who i .deferred))
  | createQueued {s : State} {a : GrantArgs} {who : Client} {i : SlotIx} (allowed : GrantAllowed s a who i)
      (creates : ¬ frees) : Move frees s (s.withCtl (s.ctl.createWaiting s.config.profiles a who i .queued))
  | rewrite {s : State} {i : SlotIx} {g g' : Grant} (here : s.ctl.grantAt i = some g) (same : SameStanding g g')
      (target : TargetAllowed s.config.profiles g g') : Move frees s (s.withCtl (s.ctl.putGrant i g'))
  | shrink {s : State} {i : SlotIx} {g : Grant} {start : Segment} {r f : Nat} (here : s.ctl.grantAt i = some g)
      (active : g.state = .active start r) (le : f ≤ r) (present : footprint g.presentDuty ≤ f)
      (target : footprint g.targetDuty ≤ f) : Move frees s (s.withCtl (s.ctl.resize s.config.profiles i f))
  | grow {s : State} {i : SlotIx} {g : Grant} {start : Segment} {r f : Nat} (here : s.ctl.grantAt i = some g)
      (active : g.state = .active start r) (le : r ≤ f) (bound : f ≤ 64) (idle : s.ctl.inFlight = false)
      (fit : fits s.ctl.loadMap s.ctl.totalCharge s.ctl.peakInForce s.ctl.chargeInForce
        (currentOf s.config.profiles g.channel) (segmentAfter start r) (f - r) = true) :
      Move frees s (s.withCtl (s.ctl.resize s.config.profiles i f))
  | stepRamps {s : State} (running : s.config.mode = .run) : Move frees s (s.withCtl s.ctl.stepRamps)
  | free {s : State} (allowed : frees) (i : SlotIx) (here : s.ctl.grantAt i ≠ none) :
      Move frees s (s.withCtl (s.ctl.free s.config.profiles i))
  | retire {s : State} (i : SlotIx) (reason : CloseReason) :
      Move frees s (s.withCtl (s.ctl.retire s.config.profiles i reason))
  | visit {s : State} (i : SlotIx) (idle : s.ctl.inFlight = false) :
      Move frees s (s.withCtl (s.ctl.visit s.config.profiles i))
  | endRepack {s : State} : Move frees s s.endRepack.dropPlan
  | startGrant {s : State} {a : GrantArgs} {t : Taken} {i : SlotIx} (allowed : GrantAllowed s a t.who i)
      (alone : s.ctl.holder a.channel = none)
      (may : ∃ added, s.repackAllowed (currentOf s.config.profiles a.channel) added = true) :
      Move frees s (s.startRepack (heldGrant a t s.config.profiles[a.channel]) (grantInput s a))
  | startAdjust {s : State} {a : AdjustArgs} {t : Taken} {i : SlotIx} {g : Grant} {start : Segment} {r : Nat}
      (named : s.ctl.lookup a.handle = some (i, g)) (active : g.state = .active start r) (more : r < footprint a.target)
      (duty : a.target ≤ 2048) (bound : a.target ≤ s.config.profiles[g.channel].maxDuty)
      (may : ∃ added, s.repackAllowed (currentOf s.config.profiles g.channel) added = true) :
      Move frees s (s.startRepack (heldAdjust a t s.config.profiles[g.channel])
        (activeEntries s.ctl s.config.profiles (some (i, footprint a.target))))
  | planReady {s : State} (planning : s.ctl.repack = .planning) :
      Move frees s (s.withCtl { s.ctl with repack := .applyPending })
  | apply {s : State} {h : HeldRequest} {plan : List Proposal} (due : s.ctl.repack = .applyPending)
      (held : s.ctl.held = some h) (planned : s.planner.plan = some plan) (creates : ¬ frees) :
      Move frees s ((s.withCtl (appliedController s.ctl s.config.profiles h plan)).dropPlan)
  | tierDrop {s : State} {tier : Tier} (running : s.config.mode = .run) (idle : s.ctl.inFlight = false) :
      Move frees s (s.withCtl ((s.ctl.loadTier s.config.tiers tier).shedAll s.config.profiles))
  | tierLoad {s : State} {tier : Tier} (when : s.config.mode = .config ∨ tier < s.ctl.tierInForce) :
      Move frees s (s.withCtl (s.ctl.loadTier s.config.tiers tier))
  | configure {s : State} {config : Configuration} (before : s.config.mode = .config) (after : config.mode = .config)
      (tiers : config.tiers = s.config.tiers) : Move frees s { s with config := config }
  | setTiers {s : State} (mode : s.config.mode = .config) (table : TierTable) : Move frees s (s.setTiers table)
  | start {s : State} (mode : s.config.mode = .config) (order : tierOutOfOrder s.config.tiers = none) :
      Move frees s { s with config := { s.config with mode := .run } }
  | stop {s : State} (allowed : frees) (idle : s.ctl.inFlight = false) :
      Move frees s { s with config := { s.config with mode := .config }, ctl := s.ctl.freeAll }
  | clear {s : State} (allowed : frees) (idle : s.ctl.inFlight = false) :
      Move frees s { s with config := Configuration.reset, ctl := s.ctl.clearAll }

/-- Moves one after another. -/
abbrev Moves (frees : Prop) : State → State → Prop := Relation.ReflTransGen (Move frees)

section
variable {frees : Prop}

theorem Move.moves {s t : State} (h : Move frees s t) : Moves frees s t := .single h

/-- A move that leaves the fault states with their counts as they are. -/
theorem Move.quiet_ports {s t : State} (config : t.config = s.config) (ctl : SameButSummaries t.ctl s.ctl)
    (planner : t.planner = s.planner) (pending : t.pending = s.pending) (preferred : t.preferred = s.preferred)
    (ports : PortsConsistent s → PortsConsistent t) (engine : t.engine = s.engine) : Move frees s t :=
  .quiet config ctl planner pending preferred ports fun h ch => by simpa only [engine] using h ch

/-- A move that leaves the ports and the fault states with their counts as they are. -/
theorem Move.outside {s t : State} (config : t.config = s.config) (ctl : t.ctl = s.ctl)
    (planner : t.planner = s.planner) (pending : t.pending = s.pending) (preferred : t.preferred = s.preferred)
    (a : t.portA = s.portA) (b : t.portB = s.portB) (engine : t.engine = s.engine) : Move frees s t :=
  .quiet_ports config (by rw [ctl]; rfl) planner pending preferred (fun h => by rwa [PortsConsistent, a, b]) engine

/-! ## The ports -/

theorem portsConsistent_iff (s : State) : PortsConsistent s ↔ ∀ p, portConsistent (s.port p) :=
  ⟨fun h p => by cases p; exacts [h.1, h.2], fun h => ⟨h .a, h .b⟩⟩

theorem portConsistent_written (u : PortUnit) (r : Response) :
    portConsistent { u with state := .ready, request := none, response := some r } := by simp [portConsistent]

theorem writeResponse_portsConsistent {s : State} (h : PortsConsistent s) (p : Port) (r : Response) :
    PortsConsistent (s.writeResponse p r) := by
  rw [portsConsistent_iff] at *
  intro q
  by_cases e : q = p
  · subst e; rw [writeResponse_port_same]; exact portConsistent_written _ _
  · rw [writeResponse_port_of_ne _ _ e]; exact h q

theorem refreshAlerts_portsConsistent {s : State} (h : PortsConsistent s) : PortsConsistent s.refreshAlerts := h

theorem writeResponse_move (s : State) (p : Port) (r : Response) : Move frees s (s.writeResponse p r) :=
  .quiet_ports (by simp) (by simp [SameButSummaries]) (by simp) (by simp) (by simp)
    (writeResponse_portsConsistent · p r) (by simp)

theorem answer_move (t : Taken) (r : Result) (payload : List Byte) (s : State) : Move frees s (answer t r payload s) :=
  writeResponse_move _ _ _

theorem answerHeld_move (s : State) (h : HeldRequest) (r : Result) (payload : List Byte) :
    Move frees s (s.answerHeld h r payload) := writeResponse_move _ _ _

theorem refreshAlerts_move (s : State) : Move frees s s.refreshAlerts :=
  .quiet_ports rfl rfl rfl rfl rfl refreshAlerts_portsConsistent rfl

/-- Moves that end with an answer. -/
theorem Moves.answered {s t : State} (h : Moves frees s t) (k : Taken) (r : Result) (payload : List Byte) :
    Moves frees s (answer k r payload t) := h.tail (answer_move k r payload t)

/-! ## Ends of events -/

theorem visits_moves (l : List SlotIx) {s : State} (h : s.ctl.inFlight = false) :
    Moves frees s (s.withCtl (l.foldl (Controller.visit s.config.profiles) s.ctl)) := by
  induction l generalizing s with
  | nil => exact .refl
  | cons i l ih =>
    obtain ⟨-, -, -, repack, -⟩ := visit_ceilings s.config.profiles s.ctl i
    have idle : (s.ctl.visit s.config.profiles i).inFlight = false := by
      simpa only [Controller.inFlight, repack] using h
    exact .head (.visit i h) (ih (s := s.withCtl (s.ctl.visit s.config.profiles i)) idle)

theorem passIf_moves (s : State) (b : Bool) : Moves frees s (s.withCtl (s.ctl.passIf s.config.profiles b)) := by
  unfold Controller.passIf
  split
  · rename_i h
    simp only [Bool.and_eq_true, Bool.not_eq_true'] at h
    exact visits_moves _ h.2
  · exact .refl

theorem settle_moves (s : State) (b : Bool) : Moves frees s (s.settle b) :=
  (passIf_moves s b).tail (refreshAlerts_move _)

theorem abandon_moves (s : State) (r : Result) : Moves frees s (s.abandon r) := by
  unfold State.abandon
  split
  · split
    · exact Relation.ReflTransGen.tail (.single .endRepack) (answerHeld_move _ _ _ _)
    · exact .single .endRepack
  · exact .refl

theorem abandonIf_moves (s : State) (b : Bool) (r : Result) : Moves frees s (if b then s.abandon r else s) := by
  split
  · exact abandon_moves s r
  · exact .refl

theorem retireGrant_moves (s : State) (i : SlotIx) (reason : CloseReason) : Moves frees s (s.retireGrant i reason) :=
  (abandonIf_moves s _ _).tail (.retire i reason)

/-! ## Requests that name a handle -/

theorem withHandle_moves {s : State} {handle : Option Nat} {t : Taken} {body : Nat → SlotIx → Grant → State}
    (h : ∀ n i g, handle = some n → s.running = true → s.ctl.lookup n = some (i, g) → Moves frees s (body n i g)) :
    Moves frees s (withHandle handle t body s) := by
  unfold withHandle
  split
  · exact (answer_move _ _ _ _).moves
  · rename_i hr
    split
    · exact (answer_move _ _ _ _).moves
    · split
      · exact (answer_move _ _ _ _).moves
      · rename_i n _ i g hl; exact h n i g rfl (by simpa using hr) hl

theorem ownerOnly_moves {s body : State} {t : Taken} {g : Grant} (h : Moves frees s body) :
    Moves frees s (ownerOnly t g body s) := by
  unfold ownerOnly
  split
  · exact h
  · exact (answer_move _ _ _ _).moves

theorem refuseClosed_moves {s body : State} {t : Taken} {g : Grant} (h : Moves frees s body) :
    Moves frees s (refuseClosed t g body s) := by
  unfold refuseClosed
  split
  · exact (answer_move _ _ _ _).moves
  · exact h

/-! ## GRANT -/

theorem running_iff {s : State} : s.running = true ↔ s.config.mode = .run := by simp [State.running]
theorem not_running_iff {s : State} : s.running = false ↔ s.config.mode = .config := by
  cases h : s.config.mode <;> simp [State.running, h]

theorem dutyOf_le {hi lo : Byte} {d : Nat} (h : dutyOf hi lo = some d) : d ≤ 2048 := by
  unfold dutyOf at h
  split at h
  · rename_i hle; cases h; exact hle
  · cases h

theorem readGrant_duty {payload : List Byte} {a : GrantArgs} (h : readGrant payload = some a) : a.duty ≤ 2048 := by
  unfold readGrant at h
  split at h
  · split at h
    · rename_i hd _ _; cases h; exact dutyOf_le hd
    · cases h
  · cases h

theorem readAdjust_target {payload : List Byte} {a : AdjustArgs} (h : readAdjust payload = some a) : a.target ≤ 2048 := by
  unfold readAdjust at h
  split at h
  · split at h
    · rename_i hd _ _; cases h; exact dutyOf_le hd
    · cases h
  · cases h

theorem answerCreated_moves {s t : State} (h : Moves frees s t) (k : Taken) (r : Result) (i : SlotIx) :
    Moves frees s (answerCreated k r i t) := by
  unfold answerCreated; split <;> exact h.answered _ _ _

theorem answerAdjusted_moves {s t : State} (h : Moves frees s t) (k : Taken) (i : SlotIx) :
    Moves frees s (answerAdjusted k i t) := by
  unfold answerAdjusted; split <;> exact h.answered _ _ _

theorem grantRefusal_none {a : GrantArgs} {who : Client} {s : State} (h : grantRefusal a who s = none) :
    s.config.profiles[a.channel].enabled = true ∧ s.engine[a.channel].fault = .ok ∧
    a.duty ≤ s.config.profiles[a.channel].maxDuty ∧ s.ctl.hasLiving who a.channel = false ∧
    s.ctl.freeSlot.isNone = false ∧ s.ctl.inFlight = false := by
  unfold grantRefusal at h
  repeat' split at h
  all_goals try cases h
  rename_i h1 h2 h3 h4 h5 h6
  refine ⟨by simpa using h1, ?_, by omega, by simpa using h4, Bool.eq_false_iff.2 h5, by simpa using h6⟩
  cases hf : s.engine[a.channel].fault <;> simp_all

theorem freeSlot_free {c : Controller} {i : SlotIx} (h : c.freeSlot = some i) : c.grantAt i = none := by
  simpa using List.find?_some h

theorem grantHeldChannel_moves (creates : ¬ frees) {a : GrantArgs} {t : Taken} {i j : SlotIx} {s : State} (ok : GrantAllowed s a t.who i)
    (hj : s.ctl.holder a.channel = some j) : Moves frees s (grantHeldChannel a t i j s) := by
  unfold grantHeldChannel
  split
  · unfold grantPreempting
    dsimp only
    split
    · rename_i start hfit
      exact answerCreated_moves (.head (.createActive ok (.preempted hj) hfit creates) (settle_moves _ _)) _ _ _
    · split
      · exact answerCreated_moves (.head (.createDeferred ok (.preempted hj) creates) (settle_moves _ _)) _ _ _
      · exact (answer_move _ _ _ _).moves
  · split
    · exact answerCreated_moves (.head (.createQueued ok creates) (settle_moves _ _)) _ _ _
    · exact (answer_move _ _ _ _).moves

theorem grantWaiting_moves (creates : ¬ frees) {a : GrantArgs} {t : Taken} {i : SlotIx} {s : State} (ok : GrantAllowed s a t.who i)
    (hj : s.ctl.holder a.channel = none) (refusal : NoRoom) : Moves frees s (grantWaiting a t i refusal s) := by
  unfold grantWaiting
  split
  · exact answerCreated_moves (.head (.createDeferred ok (.free hj) creates) (settle_moves _ _)) _ _ _
  · exact (answer_move _ _ _ _).moves

theorem grantFreeChannel_moves (creates : ¬ frees) {a : GrantArgs} {t : Taken} {i : SlotIx} {s : State} (ok : GrantAllowed s a t.who i)
    (hj : s.ctl.holder a.channel = none) : Moves frees s (grantFreeChannel a t i s) := by
  unfold grantFreeChannel
  dsimp only
  split
  · exact grantWaiting_moves creates ok hj _
  · rename_i htier
    split
    · rename_i start hfit
      refine answerCreated_moves (.head (.createActive ok (.free hj) ?_ creates) (settle_moves _ _)) _ _ _
      simpa [Controller.placeUnlessTier3, htier] using hfit
    · split
      · rename_i hmay
        rw [Bool.and_eq_true] at hmay
        exact .single (.startGrant ok hj ⟨_, hmay.2⟩)
      · exact grantWaiting_moves creates ok hj _

theorem grantEvent_moves (creates : ¬ frees) (payload : List Byte) (t : Taken) (s : State) :
    Moves frees s (grantEvent payload t s) := by
  unfold grantEvent
  split
  · exact (answer_move _ _ _ _).moves
  · rename_i hrun
    split
    · exact (answer_move _ _ _ _).moves
    · rename_i a hread
      split
      · exact (answer_move _ _ _ _).moves
      · exact (answer_move _ _ _ _).moves
      · rename_i i hclear hfree
        obtain ⟨-, -, hbound, hsingle, -, hidle⟩ := grantRefusal_none hclear
        have ok : GrantAllowed s a t.who i :=
          ⟨running_iff.1 (by simpa using hrun), hidle, freeSlot_free hfree, readGrant_duty hread, hbound, hsingle⟩
        split
        · rename_i j hj; exact grantHeldChannel_moves creates ok hj
        · rename_i hj; exact grantFreeChannel_moves creates ok hj

/-! ## ADJUST -/

theorem footprint_le_64 {d : Nat} (h : d ≤ 2048) : footprint d ≤ 64 := by unfold footprint; omega

theorem lookup_grantAt {c : Controller} {n : Nat} {i : SlotIx} {g : Grant} (h : c.lookup n = some (i, g)) :
    c.grantAt i = some g := ((lookup_some_iff c n i g).1 h).1

theorem room_of_active {g : Grant} {start : Segment} {r : Nat} (h : g.state = .active start r) : g.room = r := by
  simp [Grant.room, h]
theorem isActive_of_active {g : Grant} {start : Segment} {r : Nat} (h : g.state = .active start r) : g.isActive = true := by
  simp [Grant.isActive, h]

/-- Resizing after the record was rewritten is rewriting it after the resize. -/
theorem putGrant_resize {c : Controller} {i : SlotIx} {g g' : Grant} {start : Segment} {r : Nat}
    (h : c.grantAt i = some g) (hs : g.state = .active start r) (hs' : g'.state = g.state) (hc : g'.channel = g.channel)
    (profiles : Vector Profile 16) (f : Nat) :
    (c.putGrant i g').resize profiles i f = (c.resize profiles i f).putGrant i { g' with state := .active start f } := by
  simp only [Controller.resize, putGrant_grantAt, h, hs', hs, hc]
  split <;> simp [Controller.putGrant, Controller.enterRun, Controller.leaveRun]

theorem retarget_same (a : AdjustArgs) (profile : Profile) (g : Grant) : SameStanding g (retarget a profile g) :=
  ⟨rfl, rfl, rfl, rfl, rfl⟩

theorem adjustWithin_moves {a : AdjustArgs} {t : Taken} {i : SlotIx} {g : Grant} {start : Segment} {r : Nat} {s : State}
    (hg : s.ctl.grantAt i = some g) (hs : g.state = .active start r) (hduty : a.target ≤ 2048)
    (hbound : a.target ≤ s.config.profiles[g.channel].maxDuty) (hfit : footprint a.target ≤ r) :
    Moves frees s (adjustWithin a t i g r s) := by
  have write : Move frees s (s.withCtl (s.ctl.putGrant i (retarget a s.config.profiles[g.channel] g))) :=
    .rewrite hg (retarget_same _ _ _) (.inr ⟨hduty, hbound, fun _ => by rw [room_of_active hs]; exact hfit⟩)
  unfold adjustWithin
  dsimp only
  split
  · rename_i hkeep
    obtain ⟨htarget, hless⟩ := hkeep
    refine answerAdjusted_moves (.head write (.head (.shrink (putGrant_grantAt _ _ _) hs hless.le le_rfl ?_)
      (settle_moves _ _))) _ _
    simp [retarget, htarget]
  · exact answerAdjusted_moves write.moves _ _

theorem adjustGrow_moves {a : AdjustArgs} {t : Taken} {i : SlotIx} {g : Grant} {start : Segment} {r : Nat} {s : State}
    (hl : s.ctl.lookup a.handle = some (i, g)) (hs : g.state = .active start r) (hduty : a.target ≤ 2048)
    (hbound : a.target ≤ s.config.profiles[g.channel].maxDuty) (hmore : r < footprint a.target) :
    Moves frees s (adjustGrow a t i g start r s) := by
  have hg := lookup_grantAt hl
  unfold adjustGrow
  dsimp only
  split
  · exact (answer_move _ _ _ _).moves
  · rename_i hidle
    split
    · rename_i hfit
      rw [putGrant_resize (g' := retarget a s.config.profiles[g.channel] g) hg hs rfl rfl]
      have grown : Move frees s (s.withCtl (s.ctl.resize s.config.profiles i (footprint a.target))) :=
        .grow hg hs hmore.le (footprint_le_64 hduty) (by simpa using hidle) hfit
      have here := resize_slot hg hs s.config.profiles (footprint a.target)
      have written := Move.rewrite (frees := frees)
        (s := s.withCtl (s.ctl.resize s.config.profiles i (footprint a.target)))
        (g := { g with state := .active start (footprint a.target) })
        (g' := { retarget a s.config.profiles[g.channel] g with state := .active start (footprint a.target) })
        (i := i) (by simp only [withCtl_ctl, grantAt_def, here]) ⟨rfl, rfl, rfl, rfl, rfl⟩ (.inr ⟨hduty, hbound, fun _ => le_rfl⟩)
      exact answerAdjusted_moves (.head grown written.moves) _ _
    · split
      · rename_i hmay
        rw [Bool.and_eq_true] at hmay
        exact .single (.startAdjust hl hs hmore hduty hbound ⟨_, hmay.2⟩)
      · exact (answer_move _ _ _ _).moves

theorem adjustState_moves {a : AdjustArgs} {t : Taken} {i : SlotIx} {g : Grant} {s : State}
    (hl : s.ctl.lookup a.handle = some (i, g)) (hduty : a.target ≤ 2048)
    (hbound : a.target ≤ s.config.profiles[g.channel].maxDuty) : Moves frees s (adjustState a t i g s) := by
  have hg := lookup_grantAt hl
  unfold adjustState
  split
  · rename_i start r hs
    split
    · rename_i hfit; exact adjustWithin_moves hg hs hduty hbound hfit
    · rename_i hmore; exact adjustGrow_moves hl hs hduty hbound (by omega)
  · rename_i hs
    refine answerAdjusted_moves (.single (.rewrite hg (retarget_same _ _ _) (.inr ⟨hduty, hbound, fun ha => ?_⟩))) _ _
    unfold Grant.isActive at ha
    split at ha
    · rename_i start r e; exact absurd e (hs start r)
    · cases ha

theorem adjustEvent_moves (payload : List Byte) (t : Taken) (s : State) : Moves frees s (adjustEvent payload t s) := by
  refine withHandle_moves fun n i g hn _ hl => ownerOnly_moves (refuseClosed_moves ?_)
  split
  · exact (answer_move _ _ _ _).moves
  · rename_i a hread
    rw [hread] at hn
    cases hn
    split
    · exact (answer_move _ _ _ _).moves
    · exact adjustState_moves hl (readAdjust_target hread) (by omega)

/-! ## RENEW, RELEASE, ACK, REVOKE, DROP_CLIENT -/

theorem renewed_same (g : Grant) : SameStanding g (renewed g) := by
  unfold renewed; split <;> exact ⟨rfl, rfl, rfl, rfl, rfl⟩

theorem renewEvent_moves (payload : List Byte) (t : Taken) (s : State) : Moves frees s (renewEvent payload t s) :=
  withHandle_moves fun _ _ g _ _ hl => ownerOnly_moves (refuseClosed_moves (Relation.ReflTransGen.single
    (.rewrite (lookup_grantAt hl) (renewed_same g) (.inl (by unfold renewed; split <;> rfl))) |>.tail (answer_move _ _ _ _)))

theorem grantAt_ne_none_of_lookup {c : Controller} {n : Nat} {i : SlotIx} {g : Grant} (h : c.lookup n = some (i, g)) :
    c.grantAt i ≠ none := by rw [lookup_grantAt h]; exact Option.some_ne_none g

theorem releaseEvent_moves (hf : frees) (payload : List Byte) (t : Taken) (s : State) :
    Moves frees s (releaseEvent payload t s) :=
  withHandle_moves fun _ i _ _ _ hl => ownerOnly_moves
    (.answered (.head (.free hf i (grantAt_ne_none_of_lookup hl)) (settle_moves _ _)) _ _ _)

theorem ackEvent_moves (hf : frees) (payload : List Byte) (t : Taken) (s : State) :
    Moves frees s (ackEvent payload t s) := by
  refine withHandle_moves fun _ i g _ _ hl => ownerOnly_moves ?_
  split
  · exact (answer_move _ _ _ _).moves
  · rename_i named _
    unfold ackGrant
    dsimp only
    split
    · exact .answered (.head (.free hf i (grantAt_ne_none_of_lookup hl)) (settle_moves _ _)) _ _ _
    · exact .answered (.head (.rewrite (g' := { g with notices := g.notices.without named }) (lookup_grantAt hl)
        ⟨rfl, rfl, rfl, rfl, rfl⟩ (.inl rfl)) (settle_moves _ _)) _ _ _

theorem revokeEvent_moves (payload : List Byte) (t : Taken) (s : State) : Moves frees s (revokeEvent payload t s) := by
  refine withHandle_moves fun _ i g _ _ _ => ?_
  split
  · exact (answer_move _ _ _ _).moves
  · exact .answered ((retireGrant_moves s i .revoked).trans (settle_moves _ _)) _ _ _

/-- A walk over slots, each step a move of the controller alone. -/
theorem walk_moves {f : Controller → SlotIx → Controller} (l : List SlotIx) (s : State)
    (each : ∀ (i : SlotIx) (c : Controller), Move frees (s.withCtl c) (s.withCtl (f c i))) :
    Moves frees s (s.withCtl (l.foldl f s.ctl)) := by
  have walk : ∀ (l : List SlotIx) (c : Controller), Moves frees (s.withCtl c) (s.withCtl (l.foldl f c)) := by
    intro l
    induction l with
    | nil => exact fun c => .refl
    | cons i l ih => exact fun c => .head (each i c) (ih _)
  exact walk l s.ctl

/-- Freeing slots that hold grants, each once. -/
theorem frees_moves (hf : frees) {l : List SlotIx} {s : State} (once : l.Nodup) (here : ∀ i ∈ l, s.ctl.grantAt i ≠ none) :
    Moves frees s (s.withCtl (l.foldl (fun c i => c.free s.config.profiles i) s.ctl)) := by
  induction l generalizing s with
  | nil => exact .refl
  | cons i l ih =>
    obtain ⟨hi, hl⟩ := List.nodup_cons.1 once
    refine .head (.free hf i (here i (by simp))) (ih (s := s.withCtl (s.ctl.free s.config.profiles i)) hl fun j hj => ?_)
    have ne : j ≠ i := by rintro rfl; exact hi hj
    rw [withCtl_ctl, grantAt_def, free_slot_of_ne _ _ ne, ← grantAt_def]
    exact here j (by simp [hj])

theorem slotsWhere_nodup (c : Controller) (test : Grant → Bool) : (c.slotsWhere test).Nodup :=
  (List.nodup_finRange 32).filter _
theorem mem_slotsWhere {c : Controller} {test : Grant → Bool} {i : SlotIx} :
    i ∈ c.slotsWhere test ↔ (c.grantAt i).any test = true := by
  simp [Controller.slotsWhere, allSlots]

theorem dropGrants_moves (hf : frees) (s : State) (client : Client) : Moves frees s (s.dropGrants client) := by
  refine ((abandonIf_moves s _ _).trans (frees_moves hf (slotsWhere_nodup _ _) fun i hi => ?_)).trans (settle_moves _ _)
  rintro none
  rw [mem_slotsWhere, none] at hi
  cases hi

theorem dropEvent_moves (hf : frees) (payload : List Byte) (t : Taken) (s : State) :
    Moves frees s (dropEvent payload t s) := by
  unfold dropEvent
  split
  · exact (answer_move _ _ _ _).moves
  · split
    · exact (answer_move _ _ _ _).moves
    · split
      · exact (answer_move _ _ _ _).moves
      · exact (dropGrants_moves hf s _).answered _ _ _

/-! ## The reads -/

theorem queryEvent_moves (payload : List Byte) (t : Taken) (s : State) : Moves frees s (queryEvent payload t s) :=
  withHandle_moves fun _ _ _ _ _ _ => (answer_move _ _ _ _).moves

theorem listEvent_moves (payload : List Byte) (t : Taken) (s : State) : Moves frees s (listEvent payload t s) := by
  unfold listEvent
  split
  · exact (answer_move _ _ _ _).moves
  · split <;> exact (answer_move _ _ _ _).moves

theorem mapReadEvent_moves (payload : List Byte) (t : Taken) (s : State) : Moves frees s (mapReadEvent payload t s) := by
  unfold mapReadEvent
  split
  · exact (answer_move _ _ _ _).moves
  · split <;> exact (answer_move _ _ _ _).moves

theorem getProfileEvent_moves (payload : List Byte) (t : Taken) (s : State) :
    Moves frees s (getProfileEvent payload t s) := by
  unfold getProfileEvent; split <;> exact (answer_move _ _ _ _).moves

/-! ## The output engine -/

/-- A channel's fault state goes with its count (R155). -/
def ChannelPaired (u : ChannelUnit) : Prop := (u.fault = .ok ∧ u.mismatches ≤ 2) ∨ (u.fault = .faulted ∧ u.mismatches = 3)

theorem faultPairing_iff (s : State) : FaultPairing s ↔ ∀ ch : Channel, ChannelPaired s.engine[ch] := Iff.rfl

theorem ChannelPaired.evaluate {u : ChannelUnit} (h : ChannelPaired u) (p : Profile) : ChannelPaired (u.evaluate p) := by
  unfold ChannelUnit.evaluate
  split
  · exact h
  · rename_i hf
    have hok : u.fault = .ok ∧ u.mismatches ≤ 2 := h.resolve_right fun h' => hf h'.1
    split
    · exact .inl ⟨hok.1, Nat.zero_le _⟩
    · rename_i hc
      split
      · exact .inr ⟨rfl, rfl⟩
      · rename_i hn
        split
        · rename_i hm
          refine .inl ⟨hok.1, ?_⟩
          simp only [ChannelUnit.faultsNow, hok.1, hm, Config.faultCount] at hn
          simp only [Bool.not_eq_true', Bool.not_eq_false] at hc
          simp [hc] at hn
          show u.mismatches + 1 ≤ 2
          omega
        · split
          · exact .inl ⟨hok.1, Nat.zero_le _⟩
          · exact h

theorem meetFrameStart_move (s : State) (n : Nat) : Move frees s (s.meetFrameStart n) :=
  .outside (by simp) (by simp) (by simp) (by simp) (by simp) (by simp) (by simp) (by simp)

/-- The output engine and the events raised are others; the fault states keep their pairing with the counts. -/
theorem engine_move (s : State) (v : Vector ChannelUnit 16) (e : Events)
    (h : ∀ ch : Channel, ChannelPaired s.engine[ch] → ChannelPaired v[ch]) :
    Move frees s { s with engine := v, events := e } :=
  .quiet rfl rfl rfl rfl rfl id fun hs => (faultPairing_iff _).2 fun ch => h ch ((faultPairing_iff s).1 hs ch)

/-- A move of the controller, and one of the output engine and the events raised after it. -/
theorem Move.thenEngine {s : State} {c : Controller} (h : Move frees s (s.withCtl c)) (v : Vector ChannelUnit 16) (e : Events)
    (hv : ∀ ch : Channel, ChannelPaired s.engine[ch] → ChannelPaired v[ch]) :
    Moves frees s { s with ctl := c, engine := v, events := e } :=
  .head h (.single (engine_move (s.withCtl c) v e hv))

theorem evaluateAll_move (s : State) : Move frees s s.evaluateAll :=
  engine_move s _ _ fun ch h => by simpa using h.evaluate s.config.profiles[ch]

theorem clearSamples_move (s : State) : Move frees s s.clearSamples :=
  engine_move s _ s.events fun ch h => by simpa [ChannelPaired, ChannelUnit.clearSamples] using h

theorem capture_moves (s : State) : Moves frees s s.capture := by
  unfold State.capture
  split
  · rename_i hrun
    refine (Move.stepRamps (running_iff.1 hrun)).thenEngine _ _ fun ch h => ?_
    rw [Fin.getElem_fin, Vector.getElem_ofFn]
    exact h
  · refine .single (engine_move s _ s.events fun ch h => ?_)
    rw [Fin.getElem_fin, Vector.getElem_ofFn]
    exact h

/-- Only the events raised are others. -/
theorem events_move (s : State) (e : Events) : Move frees s { s with events := e } :=
  .outside rfl rfl rfl rfl rfl rfl rfl rfl

theorem engineFrame_moves (s : State) : Moves frees s s.engineFrame := by
  unfold State.engineFrame
  refine .head (meetFrameStart_move s s.events.engineFrames) ?_
  dsimp only
  split
  · exact .refl
  · exact .head (events_move _ _) (.head (evaluateAll_move _) ((capture_moves _).tail (clearSamples_move _)))

theorem set_engine_move (s : State) (ch : Channel) (u : ChannelUnit) (h : ChannelPaired s.engine[ch] → ChannelPaired u) :
    Move frees s { s with engine := s.engine.set ch u } :=
  engine_move s _ s.events fun ch' hp => by
    by_cases e : ch' = ch
    · subst e
      have same : (s.engine.set ch' u)[ch'] = u := by simp
      rw [same]; exact h hp
    · have : (ch : Nat) ≠ ch' := fun e' => e (Fin.ext e'.symm)
      have same : (s.engine.set ch u)[ch'] = s.engine[ch'] := by simpa using Vector.getElem_set_ne ch.isLt ch'.isLt this
      rw [same]; exact hp

theorem clearFaultEvent_moves (payload : List Byte) (t : Taken) (s : State) :
    Moves frees s (clearFaultEvent payload t s) := by
  unfold clearFaultEvent
  split
  · exact (answer_move _ _ _ _).moves
  · exact .answered (.single (set_engine_move s _ _ fun _ => .inl ⟨rfl, Nat.zero_le _⟩)) _ _ _

/-! ## The configuration requests -/

theorem setProfileEvent_moves (payload : List Byte) (t : Taken) (s : State) :
    Moves frees s (setProfileEvent payload t s) := by
  unfold setProfileEvent
  split
  · exact (answer_move _ _ _ _).moves
  · rename_i h
    have hmode := not_running_iff.1 (by simpa using h)
    split
    · exact (answer_move _ _ _ _).moves
    · refine Moves.answered ?_ _ _ _
      exact .single (.configure hmode hmode rfl)

theorem setTiersEvent_moves (payload : List Byte) (t : Taken) (s : State) : Moves frees s (setTiersEvent payload t s) := by
  unfold setTiersEvent
  split
  · exact (answer_move _ _ _ _).moves
  · rename_i h
    have hmode := not_running_iff.1 (by simpa using h)
    split
    · exact (answer_move _ _ _ _).moves
    · exact .answered (.single (.setTiers hmode _)) _ _ _

theorem recomputeTier_move (s : State) : Move frees s s.recomputeTier := by
  unfold State.recomputeTier
  dsimp only
  split <;> exact .outside rfl rfl rfl rfl rfl rfl rfl rfl

theorem setMonitorEvent_moves (payload : List Byte) (t : Taken) (s : State) :
    Moves frees s (setMonitorEvent payload t s) := by
  unfold setMonitorEvent
  split
  · exact (answer_move _ _ _ _).moves
  · rename_i h
    have hmode := not_running_iff.1 (by simpa using h)
    split
    · exact (answer_move _ _ _ _).moves
    · rename_i m _
      have written : Move frees s { s with config := { s.config with monitor := m } } := .configure hmode hmode rfl
      refine Moves.answered (.head written (.head (?_ : Move frees _ _) (.single (recomputeTier_move _)))) _ _ _
      exact .outside rfl rfl rfl rfl rfl rfl rfl rfl

/-- The frame timer and the supply tier unit are others. -/
theorem units_move (s : State) (timer : FrameTimer) (supply : TierUnit) : Move frees s { s with timer, supply } :=
  .outside rfl rfl rfl rfl rfl rfl rfl rfl

theorem restartTimer_moves (s : State) : Moves frees s s.restartTimer := by
  unfold State.restartTimer
  refine .head (units_move s { step := 0, frameCount := 0 } s.supply) (.single (engine_move _ _ s.events fun ch h => ?_))
  split
  · rw [Fin.getElem_fin, Vector.getElem_ofFn]
    exact h
  · exact h

theorem setFrameEvent_moves (payload : List Byte) (t : Taken) (s : State) : Moves frees s (setFrameEvent payload t s) := by
  unfold setFrameEvent
  split
  · exact (answer_move _ _ _ _).moves
  · rename_i h
    have hmode := not_running_iff.1 (by simpa using h)
    split
    · exact (answer_move _ _ _ _).moves
    · rename_i d l _
      have written : Move frees s { s with config := { s.config with divider := d, leaseExponent := l } } :=
        .configure hmode hmode rfl
      exact Moves.answered (.head written (restartTimer_moves _)) _ _ _

theorem startEvent_moves (t : Taken) (s : State) : Moves frees s (startEvent t s) := by
  unfold startEvent
  split
  · exact (answer_move _ _ _ _).moves
  · rename_i h
    have hmode := not_running_iff.1 (by simpa using h)
    split
    · exact (answer_move _ _ _ _).moves
    · split
      · exact (answer_move _ _ _ _).moves
      · rename_i horder; exact .answered (.single (.start hmode horder)) _ _ _

@[simp] theorem blankAll_engine (s : State) (ch : Channel) :
    s.blankAll.engine[ch] = { s.engine[ch] with window := none } := by simp [State.blankAll]

theorem stopAll_moves (hf : frees) (s : State) : Moves frees s s.stopAll := by
  have emptied : Move frees (s.abandon .wrongMode) { s.abandon .wrongMode with
      config := { (s.abandon .wrongMode).config with mode := .config }, ctl := (s.abandon .wrongMode).ctl.freeAll } :=
    .stop hf (abandon_inFlight s _)
  have blanked : ∀ (s : State) (c : Controller), Move frees { s with ctl := c } (s.blankAll.withCtl c) := fun s c => by
    refine engine_move { s with ctl := c } _ s.events fun ch h => ?_
    rw [blankAll_engine]
    exact h
  exact (abandon_moves s .wrongMode).trans (.head emptied (.head
    (blanked { s.abandon .wrongMode with config := { (s.abandon .wrongMode).config with mode := .config } } _)
    (.single (refreshAlerts_move _))))

theorem stopEvent_moves (hf : frees) (t : Taken) (s : State) : Moves frees s (stopEvent t s) := by
  unfold stopEvent
  split
  · exact (stopAll_moves hf s).answered _ _ _
  · exact (answer_move _ _ _ _).moves

theorem clearPart_moves (hf : frees) (s : State) : Moves frees s s.clearPart := by
  have emptied : Move frees (s.abandon .wrongMode) { s.abandon .wrongMode with
      config := Configuration.reset, ctl := (s.abandon .wrongMode).ctl.clearAll } := .clear hf (abandon_inFlight s _)
  refine (abandon_moves s .wrongMode).trans (.head emptied (.head (engine_move _ (Vector.replicate 16 ChannelUnit.reset)
    (s.abandon .wrongMode).events fun ch _ => ?_) (.head (units_move _ { step := 0, frameCount := 0 } TierUnit.reset)
    (.single (refreshAlerts_move _)))))
  simp [ChannelPaired, ChannelUnit.reset]

theorem clearEvent_moves (hf : frees) (t : Taken) (s : State) : Moves frees s (clearEvent t s) :=
  (clearPart_moves hf s).answered _ _ _

/-! ## The supply tier unit and the tier change -/

theorem takeSample_moves (s : State) (r : SenseReading) (l : LimitLevels) : Moves frees s (s.takeSample r l) := by
  refine .head ?_ (.single (recomputeTier_move _))
  exact .outside rfl rfl rfl rfl rfl rfl rfl rfl

theorem supplyFrame_moves (s : State) (r : SenseReading) (l : LimitLevels) : Moves frees s (s.supplyFrame r l) := by
  unfold State.supplyFrame
  refine .head (meetFrameStart_move s s.events.supplyFrames) ?_
  dsimp only
  split
  · exact .refl
  · exact .head (events_move _ _) (takeSample_moves _ r l)

theorem takeTierChange_moves (s : State) : Moves frees s s.takeTierChange := by
  unfold State.takeTierChange
  dsimp only
  split
  · exact .refl
  · rename_i hne
    split
    · rename_i h; exact .single (.tierLoad (.inl (not_running_iff.1 (by simpa using h))))
    · rename_i h
      have hrun := running_iff.1 (by simpa using h)
      split
      · exact (abandon_moves s _).trans (.head (.tierDrop (by simpa using hrun) (abandon_inFlight s _)) (settle_moves _ _))
      · rename_i hnot
        exact .head (.tierLoad (.inr (lt_of_le_of_ne (not_lt.1 hnot) hne))) (settle_moves _ _)

/-! ## The events of the grant controller -/

theorem tickSlot_moves (s : State) (i : SlotIx) : Moves frees s (s.tickSlot i) := by
  unfold State.tickSlot
  split
  · exact .refl
  · rename_i g hg
    split
    · exact .refl
    · rename_i n _
      have lowered : Move frees s (s.withCtl (s.ctl.putGrant i { g with leaseRemaining := some n })) :=
        .rewrite hg ⟨rfl, rfl, rfl, rfl, rfl⟩ (.inl rfl)
      dsimp only
      split
      · exact .head lowered (retireGrant_moves _ _ _)
      · exact lowered.moves

theorem tickAll_moves (s : State) : Moves frees s s.tickAll := by
  have walk : ∀ (l : List SlotIx) (s : State), Moves frees s (l.foldl State.tickSlot s) := by
    intro l
    induction l with
    | nil => exact fun s => .refl
    | cons i l ih => exact fun s => (tickSlot_moves s i).trans (ih _)
  exact (walk _ s).trans (settle_moves _ _)

theorem takeLeaseTick_moves (s : State) : Moves frees s s.takeLeaseTick := by
  unfold State.takeLeaseTick
  split
  · exact .refl
  · dsimp only
    split
    · exact .head (events_move _ _) (tickAll_moves _)
    · exact .single (events_move _ _)

theorem rampDone_moves {s : State} {i : SlotIx} {g : Grant} {duty : Nat} (hg : s.ctl.grantAt i = some g)
    (he : rampTakesEffect g duty = true) : Moves frees s (s.rampDone i g) := by
  simp only [rampTakesEffect, Bool.and_eq_true, beq_iff_eq] at he
  obtain ⟨⟨hactive, -⟩, hreached⟩ := he
  have noticed : ∀ c : Controller, Moves frees (s.withCtl c) (s.withCtl (match c.grantAt i with
      | some g' => if g'.rampNotify then c.putGrant i { g' with notices := { g'.notices with rampDone := true } } else c
      | none => c)) := by
    intro c
    split
    · rename_i g' hg'
      split
      · exact .single (.rewrite (s := s.withCtl c) hg' ⟨rfl, rfl, rfl, rfl, rfl⟩ (.inl rfl))
      · exact .refl
    · exact .refl
  have shrunk : Moves frees s (s.withCtl (if footprint g.targetDuty < g.room
      then s.ctl.resize s.config.profiles i (footprint g.targetDuty) else s.ctl)) := by
    split
    · rename_i hless
      cases hs : g.state with
      | active start r =>
        rw [room_of_active hs] at hless
        exact .single (.shrink hg hs hless.le (by rw [hreached]) le_rfl)
      | deferred => simp [Grant.isActive, hs] at hactive
      | queued => simp [Grant.isActive, hs] at hactive
      | closed reason => simp [Grant.isActive, hs] at hactive
    · exact .refl
  exact shrunk.trans ((noticed _).trans (settle_moves _ _))

theorem closeChannel_moves (s : State) (ch : Channel) : Moves frees s (s.closeChannel ch) :=
  ((abandonIf_moves s _ _).trans (walk_moves _ _ fun i c => Move.retire (s := State.withCtl _ c) i .channelFault)).trans
    (settle_moves _ _)

/-! ## The end of a repack -/

theorem awaits_planning {c : Controller} {serial : Byte} (h : c.awaits serial = true) : c.repack = .planning := by
  simp only [Controller.awaits, Bool.and_eq_true, beq_iff_eq] at h
  exact h.1

theorem applyPlan_moves (creates : ¬ frees) {s : State} (h : s.ctl.repack = .applyPending) : Moves frees s s.applyPlan := by
  unfold State.applyPlan
  split
  · rename_i held plan hh hp
    exact .head (.apply h hh hp creates) ((settle_moves _ _).tail (answerHeld_move _ _ _ _))
  · exact .head .endRepack (settle_moves _ _)

end

/-! ## The transactions -/

theorem takeFrame_portConsistent {u : PortUnit} (h : portConsistent u) (f : FrameForm) : portConsistent (u.takeFrame f) := by
  unfold PortUnit.takeFrame
  split
  · exact ⟨nofun, fun _ => ⟨rfl, rfl⟩, nofun⟩
  · exact h

theorem afterRead_portConsistent {u : PortUnit} (h : portConsistent u) (n : Nat) : portConsistent (u.afterRead n) := by
  unfold PortUnit.afterRead
  split
  · rename_i hs _
    split
    · exact ⟨fun _ => ⟨(h.2.2 hs).1, rfl⟩, nofun, nofun⟩
    · exact h
  · exact h

theorem i2cWrite_portConsistent {u : PortUnit} (h : portConsistent u) (bytes : List Byte) :
    portConsistent (i2cWrite u bytes) := by
  unfold i2cWrite
  split
  · exact h
  · split
    · exact h
    · exact takeFrame_portConsistent h _

theorem setPortA_move {frees : Prop} (s : State) {u : PortUnit} (h : portConsistent s.portA → portConsistent u) :
    Move frees s { s with portA := u } := .quiet_ports rfl rfl rfl rfl rfl (fun hp => ⟨h hp.1, hp.2⟩) rfl

theorem setPortB_move {frees : Prop} (s : State) {u : PortUnit} (h : portConsistent s.portB → portConsistent u) :
    Move frees s { s with portB := u } := .quiet_ports rfl rfl rfl rfl rfl (fun hp => ⟨hp.1, h hp.2⟩) rfl

/-! ## Every command -/

/-- The commands that may free a slot (R15). -/
def Frees (c : Instr) : Prop :=
  (∃ p client pl, c = .release p client pl) ∨ (∃ p client pl, c = .ack p client pl) ∨
  (∃ p client pl, c = .dropClient p client pl) ∨ (∃ p client pl, c = .stop p client pl) ∨
  (∃ p client pl, c = .clear p client pl)

/-- The takes a command can bring about: port, client byte, code and payload. -/
abbrev Take := Port → Byte → Byte → List Byte → Prop

/-- What a command but the hard reset can do: moves; a request taken is one of these takes, and is marked first. -/
inductive Reaches (frees : Prop) (take : Take) (s : State) : Host.Outcome State Fault Refusal → Prop
  | moved {t : State} (moves : Moves frees s t) : Reaches frees take s (.next t)
  | served {t : State} {p : Port} {client code : Byte} {payload : List Byte} (mine : take p client code payload)
      (takes : Takes s p client code payload)
      (moves : Moves frees (s.markTaken p ⟨client, code, payload⟩) t) : Reaches frees take s (.next t)

section
variable {frees : Prop} {take : Take} {s : State}

theorem Reaches.ite {q : Prop} [Decidable q] {o o' : Host.Outcome State Fault Refusal} (h : q → Reaches frees take s o)
    (h' : ¬ q → Reaches frees take s o') : Reaches frees take s (if q then o else o') := by
  split
  · rename_i hq; exact h hq
  · rename_i hq; exact h' hq

theorem Reaches.stay : Reaches frees take s (.next s) := .moved .refl

theorem request_reaches {body : Taken → State → State} (h : ∀ t s, Moves frees s (body t s)) (p : Port)
    (client code : Byte) (payload : List Byte) (mine : take p client code payload) :
    Reaches frees take s (.next (runRequest p client code payload body s)) := by
  rcases runRequest_cases s p client code payload body with ⟨-, heq⟩ | ⟨ht, r, heq⟩ | ⟨who, hs, heq⟩ <;> rw [heq]
  · exact .stay
  · exact .served mine ht (by rw [← answer_markTaken s p 0 client code ⟨client, code, payload⟩]; exact (answer_move _ _ _ _).moves)
  · exact .served mine hs.1 (h _ _)

theorem Reaches.portA {u : PortUnit} (h : portConsistent s.portA → portConsistent u) :
    Reaches frees take s (.next { s with portA := u }) := .moved (setPortA_move s h).moves
theorem Reaches.portB {u : PortUnit} (h : portConsistent s.portB → portConsistent u) :
    Reaches frees take s (.next { s with portB := u }) := .moved (setPortB_move s h).moves

theorem requestTransaction_reaches (mosi : List Byte) : Reaches frees take s (execRequestTransaction mosi s) :=
  .ite (fun _ => .stay) fun _ => .ite (fun _ => .portA id) fun _ => .portA fun h => takeFrame_portConsistent h _

theorem readTransaction_reaches (n : Nat) : Reaches frees take s (execReadTransaction n s) :=
  .ite (fun _ => .stay) fun _ => .ite (fun _ => .portA id) fun _ => .portA fun h => afterRead_portConsistent h n

theorem unknownTransactionKind_reaches (kind : Byte) (n : Nat) : Reaches frees take s (execUnknownTransactionKind kind n s) :=
  .ite (fun _ => .stay) fun _ => .ite (fun _ => .portA id) fun _ => .portA id

theorem i2cWriteTransaction_reaches (address : BitVec 7) (bytes : List Byte) :
    Reaches frees take s (execI2cWriteTransaction address bytes s) :=
  .ite (fun _ => .stay) fun _ => .ite (fun _ => .portB id) fun _ => .ite (fun _ => .portB id)
    fun _ => .portB fun h => i2cWrite_portConsistent h bytes

theorem i2cReadTransaction_reaches (address : BitVec 7) (n : Nat) :
    Reaches frees take s (execI2cReadTransaction address n s) :=
  .ite (fun _ => .stay) fun _ => .ite (fun _ => .portB id) fun _ => .ite (fun _ => .portB id)
    fun _ => .portB fun h => afterRead_portConsistent h n

theorem timer_move (t : FrameTimer) : Move frees s { s with timer := t } := .outside rfl rfl rfl rfl rfl rfl rfl rfl
theorem frameBoundary_move : Move frees s s.frameBoundary := .outside rfl rfl rfl rfl rfl rfl rfl rfl

theorem stepCounterAdvance_reaches : Reaches frees take s (execStepCounterAdvance s) :=
  .ite (fun _ => .stay) fun _ => .ite (fun _ => .moved frameBoundary_move.moves)
    fun _ => .moved (timer_move _).moves

theorem Reaches.sampled {ch : Channel} {u : ChannelUnit} (h : ChannelPaired s.engine[ch] → ChannelPaired u) :
    Reaches frees take s (.next { s with engine := s.engine.set ch u }) := .moved (set_engine_move s ch u h).moves

theorem readbackSample_reaches (ch : Channel) (high : Bool) : Reaches frees take s (execReadbackSample ch high s) :=
  .ite (fun _ => .stay) fun _ => .ite (fun _ => .sampled id) fun _ => .ite (fun _ => .sampled id) fun _ => .stay

theorem rampComplete_reaches (handle duty : Nat) : Reaches frees take s (execRampComplete handle duty s) := by
  have taken : Move frees s { s with events := { s.events with
      rampCompletes := s.events.rampCompletes.erase ⟨handle, duty⟩ } } := .outside rfl rfl rfl rfl rfl rfl rfl rfl
  refine .ite (fun _ => ?_) fun _ => .stay
  dsimp only
  split
  · rename_i i g _ hl
    exact .ite (fun he => .moved (.head taken (rampDone_moves (lookup_grantAt hl) he))) fun _ => .moved taken.moves
  · exact .moved taken.moves

theorem channelFault_reaches (ch : Channel) : Reaches frees take s (execChannelFault ch s) := by
  have taken : Move frees s { s with events := { s.events with
      channelFaults := s.events.channelFaults.erase ch } } := .outside rfl rfl rfl rfl rfl rfl rfl rfl
  exact .ite (fun _ => .ite (fun _ => .moved (.head taken (closeChannel_moves _ ch))) fun _ => .moved taken.moves)
    fun _ => .stay

theorem tierChange_reaches : Reaches frees take s (execTierChange s) := by
  unfold execTierChange
  split
  · exact .stay
  · exact .moved (.head (events_move s _) (takeTierChange_moves _))

theorem dropPlanEvent_move (e : PlanEvent) : Move frees s (s.dropPlanEvent e) := .outside rfl rfl rfl rfl rfl rfl rfl rfl

theorem planComplete_reaches (serial : Byte) : Reaches frees take s (execPlanComplete serial s) :=
  .ite (fun _ => .ite (fun h => .moved (.head (dropPlanEvent_move _) (.single (.planReady (awaits_planning h)))))
    fun _ => .moved (dropPlanEvent_move _).moves) fun _ => .stay

theorem planFailed_reaches (serial : Byte) : Reaches frees take s (execPlanFailed serial s) := by
  have ended : Moves frees s ((s.dropPlanEvent ⟨false, serial⟩).endRepack.dropPlan.settle true) :=
    .head (dropPlanEvent_move _) (.head .endRepack (settle_moves _ _))
  refine .ite (fun _ => .ite (fun _ => ?_) fun _ => .moved (dropPlanEvent_move _).moves) fun _ => .stay
  dsimp only
  split
  · exact .moved (ended.tail (answerHeld_move _ _ _ _))
  · exact .moved ended

theorem repackApply_reaches (creates : ¬ frees) : Reaches frees take s (execRepackApply s) := by
  have met : Move frees s (s.meetFrameStart s.events.controllerFrames) := meetFrameStart_move _ _
  unfold execRepackApply
  dsimp only
  split
  · exact .moved met.moves
  · refine .ite (fun h => .moved ?_) fun _ => .moved ?_
    · exact .head met (.head (events_move _ _) (applyPlan_moves creates (by simpa using h)))
    · exact .head met (.single (events_move _ _))

theorem resetEnd_reaches (addr1 addr0 wireA wireB : Bool) :
    Reaches frees take s (execResetEnd addr1 addr0 wireA wireB s) :=
  .ite (fun _ => .moved (.single (by exact .quiet_ports rfl rfl rfl rfl rfl id rfl))) fun _ => .stay

end

/-- Every command but the hard reset is made of moves, and none of them frees a slot but those of a command that may. -/
theorem exec_reaches (c : Instr) (s : State) (hc : c ≠ .hardReset) : 
    Reaches (Frees c) (fun p client code pl => c = requestCommand p client code pl) s (exec c s) := by
  cases c with
  | requestTransaction mosi => exact requestTransaction_reaches mosi
  | readTransaction n => exact readTransaction_reaches n
  | i2cWriteTransaction address bytes => exact i2cWriteTransaction_reaches address bytes
  | i2cReadTransaction address n => exact i2cReadTransaction_reaches address n
  | unknownTransactionKind kind n => exact unknownTransactionKind_reaches kind n
  | unknownRequest p client code pl =>
    exact .ite (fun _ => .stay) fun unknown => request_reaches (fun _ _ => (answer_move _ _ _ _).moves) p client code pl
      (requestCommand_unknown (by simpa using unknown) p client pl).symm
  | grant p client pl => exact request_reaches (grantEvent_moves (by simp [Frees]) pl) p client _ pl rfl
  | adjust p client pl => exact request_reaches (adjustEvent_moves pl) p client _ pl rfl
  | renew p client pl => exact request_reaches (renewEvent_moves pl) p client _ pl rfl
  | release p client pl => exact request_reaches (releaseEvent_moves (.inl ⟨_, _, _, rfl⟩) pl) p client _ pl rfl
  | ack p client pl => exact request_reaches (ackEvent_moves (.inr (.inl ⟨_, _, _, rfl⟩)) pl) p client _ pl rfl
  | revoke p client pl => exact request_reaches (revokeEvent_moves pl) p client _ pl rfl
  | dropClient p client pl =>
    exact request_reaches (dropEvent_moves (.inr (.inr (.inl ⟨_, _, _, rfl⟩))) pl) p client _ pl rfl
  | query p client pl => exact request_reaches (queryEvent_moves pl) p client _ pl rfl
  | list p client pl => exact request_reaches (listEvent_moves pl) p client _ pl rfl
  | mapRead p client pl => exact request_reaches (mapReadEvent_moves pl) p client _ pl rfl
  | clearFault p client pl => exact request_reaches (clearFaultEvent_moves pl) p client _ pl rfl
  | status p client pl => exact request_reaches (fun _ _ => (answer_move _ _ _ _).moves) p client _ pl rfl
  | getProfile p client pl => exact request_reaches (getProfileEvent_moves pl) p client _ pl rfl
  | setProfile p client pl => exact request_reaches (setProfileEvent_moves pl) p client _ pl rfl
  | setTiers p client pl => exact request_reaches (setTiersEvent_moves pl) p client _ pl rfl
  | setMonitor p client pl => exact request_reaches (setMonitorEvent_moves pl) p client _ pl rfl
  | setFrame p client pl => exact request_reaches (setFrameEvent_moves pl) p client _ pl rfl
  | start p client pl => exact request_reaches startEvent_moves p client _ pl rfl
  | stop p client pl =>
    exact request_reaches (stopEvent_moves (.inr (.inr (.inr (.inl ⟨_, _, _, rfl⟩))))) p client _ pl rfl
  | clear p client pl =>
    exact request_reaches (clearEvent_moves (.inr (.inr (.inr (.inr ⟨_, _, _, rfl⟩))))) p client _ pl rfl
  | frameStart => exact .ite (fun _ => .stay) fun _ => .moved frameBoundary_move.moves
  | engineFrameStart => exact .moved (engineFrame_moves s)
  | channelBecomesFaulted ch => exact .ite (fun _ => .moved (engineFrame_moves s)) fun _ => .stay
  | readbackSample ch high => exact readbackSample_reaches ch high
  | sample r l => exact .moved (supplyFrame_moves s r l)
  | downDebounce r l => exact .ite (fun _ => .moved (supplyFrame_moves s r l)) fun _ => .stay
  | upHoldOff r l => exact .ite (fun _ => .moved (supplyFrame_moves s r l)) fun _ => .stay
  | leaseTick => exact .moved (takeLeaseTick_moves s)
  | leaseExpiry i => exact .ite (fun _ => .moved (takeLeaseTick_moves s)) fun _ => .stay
  | rampComplete handle duty => exact rampComplete_reaches handle duty
  | channelFault ch => exact channelFault_reaches ch
  | tierChange => exact tierChange_reaches
  | planComplete serial => exact planComplete_reaches serial
  | planFailed serial => exact planFailed_reaches serial
  | repackApply => exact repackApply_reaches (by simp [Frees])
  | hardReset => exact absurd rfl hc
  | resetEnd a1 a0 wa wb => exact resetEnd_reaches a1 a0 wa wb
  | stepCounterAdvance => exact stepCounterAdvance_reaches

/-! ## Laws kept by every move -/

/-- What each move keeps, moves keep. -/
theorem Moves.keep {frees : Prop} {P : State → Prop} (each : ∀ s t, Move frees s t → P s → P t) {s t : State}
    (h : Moves frees s t) (hs : P s) : P t := by
  induction h with
  | refl => exact hs
  | tail _ last ih => exact each _ _ last ih

/-- A law that holds after a hard reset and that a take and each move keep is kept by every command. -/
theorem exec_keeps {P : State → Prop} (reset : ∀ s : State, P s.held)
    (mark : ∀ (s : State) (p : Port) (r : Request), (s.port p).request.isSome = true → P s → P (s.markTaken p r))
    (each : ∀ (frees : Prop) (s t : State), Move frees s t → P s → P t) {c : Instr} {s t : State} (hs : P s)
    (h : exec c s = .next t) : P t := by
  by_cases hc : c = .hardReset
  · subst hc
    have ht : s.held = t := by injection h
    rw [← ht]; exact reset s
  · have hr := exec_reaches c s hc
    rw [h] at hr
    cases hr with
    | moved moves => exact moves.keep (each _) hs
    | @served _ p client code payload _ takes moves =>
      refine moves.keep (each _) (mark s p _ ?_ hs)
      simp only [Takes, State.takes, Bool.and_eq_true, beq_iff_eq] at takes
      rw [takes.2]; rfl

/-- The same for a step, for a law that does not read the queue. -/
theorem step_keeps {P : State → Prop} (queue : ∀ (s : State) (q : List Instr), P s → P { s with pending := q })
    (reset : ∀ s : State, P s.held)
    (mark : ∀ (s : State) (p : Port) (r : Request), (s.port p).request.isSome = true → P s → P (s.markTaken p r))
    (each : ∀ (frees : Prop) (s t : State), Move frees s t → P s → P t) {s t : State} (hs : P s)
    (h : step s = .next t) : P t := by
  unfold step at h
  split at h
  · have ht : s = t := by injection h
    exact ht ▸ hs
  · exact exec_keeps reset mark each (queue s _ hs) h

end Sys2Proof.Proofs
end

section
/-! SUPPORT. The pairings of R186, R155 and R169 under every move. -/

namespace Sys2Proof.Proofs

open Sys2Proof Sys2Proof.Machine Sys2Proof.Safety Sys2Proof.Laws

/-! ## Controllers that differ in their summaries alone -/

section
variable {c d : Controller} (h : SameButSummaries c d)
include h

theorem same_table : c.table = d.table := by injection h
theorem same_waiting : c.waiting = d.waiting := by injection h
theorem same_admission : c.admission = d.admission := by injection h
theorem same_loadMap : c.loadMap = d.loadMap := by injection h
theorem same_totalCharge : c.totalCharge = d.totalCharge := by injection h
theorem same_tierInForce : c.tierInForce = d.tierInForce := by injection h
theorem same_peakInForce : c.peakInForce = d.peakInForce := by injection h
theorem same_chargeInForce : c.chargeInForce = d.chargeInForce := by injection h
theorem same_repack : c.repack = d.repack := by injection h
theorem same_held : c.held = d.held := by injection h
theorem same_planSerial : c.planSerial = d.planSerial := by injection h
theorem same_grantAt (i : SlotIx) : c.grantAt i = d.grantAt i := grantAt_of_table (same_table h) i
theorem same_inFlight : c.inFlight = d.inFlight := by simp only [Controller.inFlight, same_repack h]

end

/-! ## CONFIG is empty (R169) -/

/-- Where a slot holds a grant the device is in RUN. -/
theorem running_of_grant {s : State} (h : ConfigEmpty s) {i : SlotIx} {g : Grant} (hg : s.ctl.grantAt i = some g) :
    s.config.mode = .run := by
  cases hm : s.config.mode with
  | run => rfl
  | config => rw [(h hm).1 i] at hg; cases hg

/-- While a repack is in flight the device is in RUN. -/
theorem running_of_inFlight {s : State} (h : ConfigEmpty s) (hf : s.ctl.inFlight = true) :
    s.config.mode = .run := by
  cases hm : s.config.mode with
  | run => rfl
  | config => rw [(h hm).2] at hf; cases hf

theorem configEmpty_of_run {s : State} (h : s.config.mode = .run) : ConfigEmpty s := fun hm => by rw [h] at hm; cases hm

theorem inFlight_of_planning {c : Controller} (h : c.repack = .planning) : c.inFlight = true := by
  simp [Controller.inFlight, h]
theorem inFlight_of_applyPending {c : Controller} (h : c.repack = .applyPending) : c.inFlight = true := by
  simp [Controller.inFlight, h]

/-- A controller without grants is left as it is by what a grant's slot brings. -/
theorem visit_of_empty {c : Controller} (h : ∀ i, c.grantAt i = none) (profiles : Vector Profile 16) (i : SlotIx) :
    c.visit profiles i = c := by simp [Controller.visit, h i]
theorem retire_of_empty {c : Controller} (h : ∀ i, c.grantAt i = none) (profiles : Vector Profile 16) (i : SlotIx)
    (r : CloseReason) : c.retire profiles i r = c := by simp [Controller.retire, h i]
theorem free_of_empty {c : Controller} (h : ∀ i, c.grantAt i = none) (profiles : Vector Profile 16) (i j : SlotIx) :
    (c.free profiles i).grantAt j = none := by
  by_cases e : j = i
  · subst e; rw [grantAt_def, free_slot]
  · rw [grantAt_def, free_slot_of_ne _ _ e]; exact h j

@[simp] theorem freeAll_grantAt (c : Controller) (i : SlotIx) : c.freeAll.grantAt i = none := by
  simp only [grantAt_def, Controller.freeAll, Fin.getElem_fin, Vector.getElem_ofFn, Slot.freed]
  split
  · rfl
  · rename_i h; simpa using h
@[simp] theorem clearAll_grantAt (c : Controller) (i : SlotIx) : c.clearAll.grantAt i = none := freeAll_grantAt c i

@[simp] theorem freeAll_inFlight (c : Controller) : c.freeAll.inFlight = c.inFlight := by
  simp only [Controller.freeAll, Controller.inFlight]
@[simp] theorem clearAll_inFlight (c : Controller) : c.clearAll.inFlight = c.inFlight := by
  simp only [Controller.clearAll, Controller.inFlight, loadTier_repack, Controller.freeAll]

theorem Move.configEmpty {frees : Prop} {s t : State} (m : Move frees s t) (h : ConfigEmpty s) : ConfigEmpty t := by
  cases m with
  | quiet config ctl =>
    intro hm
    rw [config] at hm
    exact ⟨fun i => by rw [same_grantAt ctl]; exact (h hm).1 i, by rw [same_inFlight ctl]; exact (h hm).2⟩
  | createActive allowed => exact configEmpty_of_run allowed.running
  | createDeferred allowed => exact configEmpty_of_run allowed.running
  | createQueued allowed => exact configEmpty_of_run allowed.running
  | rewrite here => have run := running_of_grant h here; exact configEmpty_of_run run
  | shrink here => have run := running_of_grant h here; exact configEmpty_of_run run
  | grow here => have run := running_of_grant h here; exact configEmpty_of_run run
  | stepRamps running => exact configEmpty_of_run running
  | free _ i =>
    refine fun hm => ⟨fun j => free_of_empty (h hm).1 _ i j, ?_⟩
    simpa [Controller.inFlight] using (h hm).2
  | retire i reason => intro hm; rw [withCtl_ctl, retire_of_empty (h hm).1]; exact h hm
  | visit i => intro hm; rw [withCtl_ctl, visit_of_empty (h hm).1]; exact h hm
  | endRepack => exact fun hm => ⟨(h hm).1, rfl⟩
  | startGrant allowed => exact configEmpty_of_run allowed.running
  | startAdjust named => have run := running_of_grant h (lookup_grantAt named); exact configEmpty_of_run run
  | planReady planning => have run := running_of_inFlight h (inFlight_of_planning planning); exact configEmpty_of_run run
  | apply due => have run := running_of_inFlight h (inFlight_of_applyPending due); exact configEmpty_of_run run
  | tierDrop running => exact configEmpty_of_run running
  | tierLoad => exact fun hm => h hm
  | configure before => exact fun _ => h before
  | setTiers mode => exact fun _ => h mode
  | start => exact configEmpty_of_run rfl
  | stop _ idle => exact fun _ => ⟨freeAll_grantAt _, by simpa using idle⟩
  | clear _ idle => exact fun _ => ⟨clearAll_grantAt _, by simpa using idle⟩

/-! ## The pairings -/

/-- The laws of R186, R155 and R169. -/
def StatePairings (s : State) : Prop := PortsConsistent s ∧ FaultPairing s ∧ ConfigEmpty s

theorem Move.portsConsistent {frees : Prop} {s t : State} (m : Move frees s t) (h : PortsConsistent s) :
    PortsConsistent t := by
  cases m with
  | quiet _ _ _ _ _ ports _ => exact ports h
  | _ => simpa only [PortsConsistent, withCtl_portA, withCtl_portB, dropPlan_portA, dropPlan_portB, endRepack_portA,
      endRepack_portB, startRepack_portA, startRepack_portB, State.setTiers] using h

theorem Move.faultPairing {frees : Prop} {s t : State} (m : Move frees s t) (h : FaultPairing s) : FaultPairing t := by
  cases m with
  | quiet _ _ _ _ _ _ faults => exact faults h
  | _ => simpa only [FaultPairing, withCtl_engine, dropPlan_engine, endRepack_engine, startRepack_engine,
      State.setTiers] using h

/-- A port that holds a request is IN_FLIGHT, and stays so with the request marked taken. -/
theorem portConsistent_taken {u : PortUnit} (h : portConsistent u) (hr : u.request.isSome = true) (x : HeldFrame) :
    portConsistent { u with request := some x } := by
  obtain ⟨hidle, hflight, hready⟩ := h
  refine ⟨fun e => ?_, fun e => ⟨rfl, (hflight e).2⟩, fun e => ?_⟩
  · rw [(hidle e).1] at hr; cases hr
  · rw [(hready e).1] at hr; cases hr

theorem markTaken_portsConsistent {s : State} (h : PortsConsistent s) {p : Port} (hr : (s.port p).request.isSome = true)
    (r : Request) : PortsConsistent (s.markTaken p r) := by
  rw [portsConsistent_iff] at *
  intro q
  by_cases e : q = p
  · subst e; rw [markTaken_port_same]; exact portConsistent_taken (h q) hr _
  · rw [eq_otherPort_of_ne e, markTaken_port_other]; exact h _

/-- The hard reset and a take leave no law behind that the machine right after reset and the state before the take meet. -/
theorem markTaken_faultPairing {s : State} (h : FaultPairing s) (p : Port) (r : Request) :
    FaultPairing (s.markTaken p r) := fun ch => by simpa only [markTaken_engine] using h ch
theorem markTaken_configEmpty {s : State} (h : ConfigEmpty s) (p : Port) (r : Request) : ConfigEmpty (s.markTaken p r) := by
  simpa only [ConfigEmpty, markTaken_config, markTaken_ctl] using h

theorem reset_portsConsistent : PortsConsistent State.reset := by
  simp [PortsConsistent, portConsistent, State.reset, PortUnit.reset]
theorem reset_faultPairing : FaultPairing State.reset := fun ch => by
  simp [State.reset, ChannelUnit.reset]
theorem reset_grantAt (i : SlotIx) : State.reset.ctl.grantAt i = none := by
  simp [State.reset, Controller.reset, Controller.grantAt]
theorem reset_inFlight : State.reset.ctl.inFlight = false := rfl
theorem reset_configEmpty : ConfigEmpty State.reset := fun _ => ⟨reset_grantAt, reset_inFlight⟩

/-- Settles O2: every move keeps each of the three laws, and a take keeps the pairing of its port. -/
theorem statePairingsKept : Obligations.StatePairingsKept := fun _ _ hs h =>
  step_keeps (P := StatePairings) (fun _ _ h => h)
    (fun _ => ⟨reset_portsConsistent, reset_faultPairing, reset_configEmpty⟩)
    (fun _ p r hr ⟨hp, hf, hc⟩ =>
      ⟨markTaken_portsConsistent hp hr r, markTaken_faultPairing hf p r, markTaken_configEmpty hc p r⟩)
    (fun _ _ _ m ⟨hp, hf, hc⟩ => ⟨m.portsConsistent hp, m.faultPairing hf, m.configEmpty hc⟩) hs h

end Sys2Proof.Proofs
end

section
/-! SUPPORT. The two lists of the grant controller: the insertion rule of R20, and what each operation on the controller's records
does to the laws of R19 and R22. -/

namespace Sys2Proof.Proofs

open Sys2Proof Sys2Proof.Machine Sys2Proof.Safety Sys2Proof.Laws

/-! ## The insertion rule (R20) -/

/-- The rule cuts the list behind its last member of equal or higher priority. -/
theorem insertByPriority_split (prio : SlotIx → Priority) (i : SlotIx) (p : Priority) (l : List SlotIx) :
    ∃ before after : List SlotIx, l = before ++ after ∧ insertByPriority prio i p l = before ++ i :: after ∧
      (∀ j, before.getLast? = some j → p ≤ prio j) ∧ ∀ j, j ∈ after → prio j < p := by
  induction l with
  | nil => exact ⟨[], [], rfl, rfl, by simp, by simp⟩
  | cons j rest ih =>
    by_cases h : (j :: rest).any (fun k => decide (p ≤ prio k)) = true
    · obtain ⟨before, after, rfl, hins, hlast, hafter⟩ := ih
      refine ⟨j :: before, after, rfl, by simp [insertByPriority, h, hins], fun k hk => ?_, hafter⟩
      cases before with
      | nil =>
        obtain rfl : j = k := by simpa using hk
        obtain ⟨x, hx, hp⟩ := List.any_eq_true.1 h
        rcases List.mem_cons.1 hx with rfl | hx
        · simpa using hp
        · exact absurd (hafter x (by simpa using hx)) (by simpa using hp)
      | cons b before => exact hlast k (by simpa using hk)
    · refine ⟨[], j :: rest, rfl, by simp [insertByPriority, h], by simp, fun k hk => ?_⟩
      simp only [List.any_eq_true, decide_eq_true_eq, not_exists, not_and, not_le] at h
      exact h k hk

theorem insertByPriority_perm (prio : SlotIx → Priority) (i : SlotIx) (p : Priority) (l : List SlotIx) :
    (insertByPriority prio i p l).Perm (i :: l) := by
  obtain ⟨before, after, rfl, hins, -⟩ := insertByPriority_split prio i p l
  rw [hins]; exact List.perm_middle

/-- In a list in non-increasing order no member is above one before it; so an insertion by the rule keeps the order (R19). -/
theorem insertByPriority_sorted (prio : SlotIx → Priority) (i : SlotIx) (l : List SlotIx)
    (h : l.Pairwise fun j k => prio k ≤ prio j) :
    (insertByPriority prio i (prio i) l).Pairwise fun j k => prio k ≤ prio j := by
  obtain ⟨before, after, rfl, hins, hlast, hafter⟩ := insertByPriority_split prio i (prio i) l
  rw [hins]
  rw [List.pairwise_append] at h
  obtain ⟨hb, ha, hab⟩ := h
  have above : ∀ j ∈ before, prio i ≤ prio j := by
    intro j hj
    obtain ⟨init, last, rfl⟩ : ∃ init last, before = init ++ [last] := by
      rcases List.eq_nil_or_concat before with rfl | ⟨init, last, e⟩
      · cases hj
      · exact ⟨init, last, by simpa using e⟩
    have hle := hlast last (by simp)
    rcases List.mem_append.1 hj with hj | hj
    · exact hle.trans ((List.pairwise_append.1 hb).2.2 j hj last (by simp))
    · obtain rfl : j = last := by simpa using hj
      exact hle
  refine List.pairwise_append.2 ⟨hb, List.pairwise_cons.2 ⟨fun k hk => (hafter k hk).le, ha⟩, fun j hj k hk => ?_⟩
  rcases List.mem_cons.1 hk with rfl | hk
  · exact above j hj
  · exact hab j hj k hk

/-- Settles O26: the rule's cut, and the order across it. -/
theorem insertionKeepsOrder : Obligations.InsertionKeepsOrder := fun prio i l =>
  ⟨insertByPriority_split prio i (prio i) l, insertByPriority_sorted prio i l⟩

/-! ## The lists without one slot -/

/-- The lists are exact for every slot but this one, which is in neither. -/
structure ListsWithout (c : Controller) (i : SlotIx) : Prop where
  waitingNodup : c.waiting.Nodup
  admissionNodup : c.admission.Nodup
  waiting : ∀ j, j ∈ c.waiting ↔ j ≠ i ∧ (c.grantAt j).any Grant.waits = true
  admission : ∀ j, j ∈ c.admission ↔ j ≠ i ∧ (c.grantAt j).any Grant.isActive = true
  sorted : c.waiting.Pairwise fun j k => c.priorityAt k ≤ c.priorityAt j

theorem priorityAt_of_grantAt {c d : Controller} {i : SlotIx} (h : d.grantAt i = c.grantAt i) :
    d.priorityAt i = c.priorityAt i := by simp only [Controller.priorityAt, h]

theorem priorityAt_of_some {c : Controller} {i : SlotIx} {g : Grant} (h : c.grantAt i = some g) :
    c.priorityAt i = g.priority := by simp only [Controller.priorityAt, h]

/-- The order of the waiting list reads the priorities of its members alone. -/
theorem sorted_congr {prio prio' : SlotIx → Priority} {l : List SlotIx} (h : ∀ j ∈ l, prio' j = prio j)
    (hl : l.Pairwise fun j k => prio k ≤ prio j) : l.Pairwise fun j k => prio' k ≤ prio' j :=
  hl.imp_of_mem fun {a b} ha hb hab => by rw [h a ha, h b hb]; exact hab

section
variable {c d : Controller} {i : SlotIx}

/-- Two controllers with the same lists, in which each slot's grant waits, is ACTIVE and counts alike. -/
theorem listsExact_congr (h : ListsExact c) (hw : d.waiting = c.waiting) (ha : d.admission = c.admission)
    (waits : ∀ j, (d.grantAt j).any Grant.waits = (c.grantAt j).any Grant.waits)
    (active : ∀ j, (d.grantAt j).any Grant.isActive = (c.grantAt j).any Grant.isActive)
    (prio : ∀ j, d.priorityAt j = c.priorityAt j) : ListsExact d := by
  obtain ⟨hwn, han, hwm, ham, hs⟩ := h
  refine ⟨hw ▸ hwn, ha ▸ han, fun j => ?_, fun j => ?_, ?_⟩
  · rw [hw, waits]; exact hwm j
  · rw [ha, active]; exact ham j
  · rw [hw]; exact sorted_congr (fun j _ => prio j) hs

theorem listsExact_of_grants (h : ListsExact c) (hw : d.waiting = c.waiting) (ha : d.admission = c.admission)
    (hg : ∀ j, d.grantAt j = c.grantAt j) : ListsExact d :=
  listsExact_congr h hw ha (fun j => by rw [hg]) (fun j => by rw [hg]) fun j => priorityAt_of_grantAt (hg j)

/-- Rewriting a record that waits, is ACTIVE and counts as it did keeps the lists. -/
theorem putGrant_listsExact (h : ListsExact c) {g g' : Grant} (hg : c.grantAt i = some g)
    (waits : g'.waits = g.waits) (active : g'.isActive = g.isActive) (prio : g'.priority = g.priority) :
    ListsExact (c.putGrant i g') := by
  have at_i : (c.putGrant i g').grantAt i = some g' := putGrant_grantAt _ _ _
  refine listsExact_congr h (putGrant_waiting _ _ _) (putGrant_admission _ _ _) (fun j => ?_) (fun j => ?_) fun j => ?_
  all_goals by_cases e : j = i
  · subst e; rw [at_i, hg]; exact waits
  · rw [putGrant_grantAt_of_ne _ _ e]
  · subst e; rw [at_i, hg]; exact active
  · rw [putGrant_grantAt_of_ne _ _ e]
  · subst e; rw [priorityAt_of_some at_i, priorityAt_of_some hg]; exact prio
  · exact priorityAt_of_grantAt (putGrant_grantAt_of_ne _ _ e)

/-- A FREE slot is in neither list. -/
theorem listsWithout_of_free (h : ListsExact c) (hi : c.grantAt i = none) : ListsWithout c i := by
  obtain ⟨hwn, han, hwm, ham, hs⟩ := h
  refine ⟨hwn, han, fun j => ?_, fun j => ?_, hs⟩
  · rw [hwm]; exact ⟨fun h => ⟨by rintro rfl; simp [hi] at h, h⟩, And.right⟩
  · rw [ham]; exact ⟨fun h => ⟨by rintro rfl; simp [hi] at h, h⟩, And.right⟩

theorem not_active_of_waits {g : Grant} (h : g.waits = true) : g.isActive = false := by
  unfold Grant.waits at h
  cases hs : g.state <;> simp_all [Grant.isActive]
theorem not_waits_of_active {g : Grant} (h : g.isActive = true) : g.waits = false := by
  cases hw : g.waits with
  | false => rfl
  | true => rw [not_active_of_waits hw] at h; cases h

theorem isActive_iff {g : Grant} : g.isActive = true ↔ ∃ start r, g.state = .active start r := by
  unfold Grant.isActive
  split
  · rename_i start r h; simp [h]
  · rename_i h; simpa using fun start r e => h start r e

/-- A grant is ACTIVE, waits, or is CLOSED. -/
theorem standing_cases (g : Grant) :
    (∃ start r, g.state = .active start r) ∨ g.waits = true ∨ ∃ reason, g.state = .closed reason := by
  unfold Grant.waits
  cases hs : g.state <;> simp

theorem isClosed_of_closed {g : Grant} {reason : CloseReason} (h : g.state = .closed reason) : g.isClosed = true := by
  simp [Grant.isClosed, h]

/-- A grant that gives up its list place is in neither list. -/
theorem detach_listsWithout (h : ListsExact c) (profiles : Vector Profile 16) (i : SlotIx) :
    ListsWithout (c.detach profiles i) i := by
  obtain ⟨hwn, han, hwm, ham, hs⟩ := id h
  cases hg : c.grantAt i with
  | none => rw [detach_free hg]; exact listsWithout_of_free h hg
  | some g =>
    rcases standing_cases g with ⟨start, r, hstate⟩ | hwaits | ⟨reason, hstate⟩
    · have hact := isActive_of_active hstate
      have hnot := not_waits_of_active hact
      have hw : (c.detach profiles i).waiting = c.waiting := by simp only [detach_active hg hstate, leaveRun_waiting]
      have ha : (c.detach profiles i).admission = c.admission.erase i := by simp only [detach_active hg hstate]
      refine ⟨by rw [hw]; exact hwn, by rw [ha]; exact han.erase i, fun j => ?_, fun j => ?_, ?_⟩
      · rw [hw, hwm, detach_grantAt]; exact ⟨fun h => ⟨(by rintro rfl; simp [hg, hnot] at h), h⟩, And.right⟩
      · rw [ha, han.mem_erase_iff, ham, detach_grantAt]
      · rw [hw]; exact sorted_congr (fun j _ => priorityAt_of_grantAt (detach_grantAt _ _ _ _)) hs
    · have hnot := not_active_of_waits hwaits
      have hw : (c.detach profiles i).waiting = c.waiting.erase i := by simp only [detach_waits hg hwaits]
      have ha : (c.detach profiles i).admission = c.admission := by simp only [detach_waits hg hwaits]
      refine ⟨by rw [hw]; exact hwn.erase i, by rw [ha]; exact han, fun j => ?_, fun j => ?_, ?_⟩
      · rw [hw, hwn.mem_erase_iff, hwm, detach_grantAt]
      · rw [ha, ham, detach_grantAt]; exact ⟨fun h => ⟨(by rintro rfl; simp [hg, hnot] at h), h⟩, And.right⟩
      · rw [hw]
        exact sorted_congr (fun j _ => priorityAt_of_grantAt (detach_grantAt _ _ _ _)) (hs.sublist List.erase_sublist)
    · rw [detach_closed hg (isClosed_of_closed hstate)]
      refine ⟨hwn, han, fun j => ?_, fun j => ?_, hs⟩
      · rw [hwm]; exact ⟨fun h => ⟨by rintro rfl; simp [hg, Grant.waits, hstate] at h, h⟩, And.right⟩
      · rw [ham]; exact ⟨fun h => ⟨by rintro rfl; simp [hg, Grant.isActive, hstate] at h, h⟩, And.right⟩

/-- What stands in the slot itself does not matter. -/
theorem ListsWithout.congr (h : ListsWithout c i) (hw : d.waiting = c.waiting) (ha : d.admission = c.admission)
    (hg : ∀ j, j ≠ i → d.grantAt j = c.grantAt j) : ListsWithout d i := by
  refine ⟨hw ▸ h.waitingNodup, ha ▸ h.admissionNodup, fun j => ?_, fun j => ?_, ?_⟩
  · rw [hw, h.waiting]; exact and_congr_right fun hj => by rw [hg j hj]
  · rw [ha, h.admission]; exact and_congr_right fun hj => by rw [hg j hj]
  · rw [hw]
    exact sorted_congr (fun j hj => priorityAt_of_grantAt (hg j ((h.waiting j).1 hj).1)) h.sorted

theorem ListsWithout.putGrant (h : ListsWithout c i) (g : Grant) : ListsWithout (c.putGrant i g) i :=
  h.congr (putGrant_waiting _ _ _) (putGrant_admission _ _ _) fun _ hj => putGrant_grantAt_of_ne _ _ hj

theorem ListsWithout.emptySlot (h : ListsWithout c i) : ListsWithout (c.emptySlot i) i :=
  h.congr (emptySlot_waiting _ _) (emptySlot_admission _ _) fun _ hj => emptySlot_grantAt_of_ne _ hj

/-- A slot that is FREE or CLOSED belongs to neither list. -/
theorem ListsWithout.exact_of_neither (h : ListsWithout c i) (hw : (c.grantAt i).any Grant.waits = false)
    (ha : (c.grantAt i).any Grant.isActive = false) : ListsExact c := by
  refine ⟨h.waitingNodup, h.admissionNodup, fun j => ?_, fun j => ?_, h.sorted⟩
  · rw [h.waiting]; exact ⟨And.right, fun hj => ⟨(by rintro rfl; rw [hw] at hj; cases hj), hj⟩⟩
  · rw [h.admission]; exact ⟨And.right, fun hj => ⟨(by rintro rfl; rw [ha] at hj; cases hj), hj⟩⟩

/-- A grant that waits enters the waiting list by the insertion rule (R19, R20). -/
theorem ListsWithout.enterWaiting (h : ListsWithout c i) (hw : (c.grantAt i).any Grant.waits = true) :
    ListsExact (c.enterWaiting i) := by
  have hg : ∀ j, (c.enterWaiting i).grantAt j = c.grantAt j := fun j => grantAt_of_table (enterWaiting_table _ _) j
  have hperm := insertByPriority_perm c.priorityAt i (c.priorityAt i) c.waiting
  have hnot : (c.grantAt i).any Grant.isActive = false := by
    cases hgi : c.grantAt i with
    | none => rfl
    | some g => rw [hgi] at hw; exact not_active_of_waits hw
  refine ⟨?_, by simpa using h.admissionNodup, fun j => ?_, fun j => ?_, ?_⟩
  · rw [enterWaiting_waiting, hperm.nodup_iff]
    exact List.nodup_cons.2 ⟨fun hi => ((h.waiting i).1 hi).1 rfl, h.waitingNodup⟩
  · rw [enterWaiting_waiting, hperm.mem_iff, List.mem_cons, h.waiting, hg]
    by_cases e : j = i
    · subst e; simp [hw]
    · simp [e]
  · rw [enterWaiting_admission, h.admission, hg]
    by_cases e : j = i
    · subst e; simp [hnot]
    · simp [e]
  · rw [enterWaiting_waiting]
    exact sorted_congr (fun j _ => priorityAt_of_grantAt (hg j)) (insertByPriority_sorted _ _ _ h.sorted)

/-- A grant made ACTIVE is appended to the admission list (R22). -/
theorem ListsWithout.appended (h : ListsWithout c i) (ha : (c.grantAt i).any Grant.isActive = true)
    (hw : d.waiting = c.waiting) (had : d.admission = c.admission ++ [i]) (hg : ∀ j, d.grantAt j = c.grantAt j) :
    ListsExact d := by
  have hnot : (c.grantAt i).any Grant.waits = false := by
    cases hgi : c.grantAt i with
    | none => rfl
    | some g => rw [hgi] at ha; exact not_waits_of_active ha
  refine ⟨hw ▸ h.waitingNodup, ?_, fun j => ?_, fun j => ?_, ?_⟩
  · rw [had, List.nodup_append]
    exact ⟨h.admissionNodup, by simp, by rintro a ha' b hb rfl; exact ((h.admission a).1 ha').1 (by simpa using hb)⟩
  · rw [hw, h.waiting, hg]
    by_cases e : j = i
    · subst e; simp [hnot]
    · simp [e]
  · rw [had, List.mem_append, h.admission, hg]
    by_cases e : j = i
    · subst e; simp [ha]
    · simp [e]
  · rw [hw]; exact sorted_congr (fun j _ => priorityAt_of_grantAt (hg j)) h.sorted

/-! ## The moves of a grant -/

theorem activate_listsExact (h : ListsWithout c i) (profiles : Vector Profile 16) (g : Grant) (s : Segment) (f : Nat) :
    ListsExact (c.activate profiles i g s f) :=
  (h.putGrant { g with state := .active s f }).appended (by simp [Grant.isActive]) (by simp) (by simp)
    fun j => grantAt_of_table (by simp only [Controller.activate, enterRun_table]) j

theorem createWaiting_listsExact (h : ListsWithout c i) (profiles : Vector Profile 16) (a : GrantArgs) (who : Client)
    {state : GrantState} (hs : state = .deferred ∨ state = .queued) :
    ListsExact (c.createWaiting profiles a who i state) :=
  (h.putGrant _).enterWaiting (by rcases hs with rfl | rfl <;> simp [Grant.waits, grantRecord, newGrant])

theorem free_listsExact (h : ListsExact c) (profiles : Vector Profile 16) (i : SlotIx) :
    ListsExact (c.free profiles i) :=
  (detach_listsWithout h profiles i).emptySlot.exact_of_neither (by simp) (by simp)

theorem retire_listsExact (h : ListsExact c) (profiles : Vector Profile 16) (i : SlotIx) (r : CloseReason) :
    ListsExact (c.retire profiles i r) := by
  unfold Controller.retire
  split
  · exact h
  · exact ((detach_listsWithout h profiles i).putGrant _).exact_of_neither (by simp [Grant.waits]) (by simp [Grant.isActive])

theorem shed_listsExact (h : ListsExact c) (profiles : Vector Profile 16) (i : SlotIx) :
    ListsExact (c.shed profiles i) := by
  unfold Controller.shed
  split
  · exact h
  · exact ((detach_listsWithout h profiles i).putGrant _).enterWaiting (by simp [Grant.waits])

theorem preempt_listsExact (h : ListsExact c) (profiles : Vector Profile 16) (i : SlotIx) :
    ListsExact (c.preempt profiles i) := by
  unfold Controller.preempt
  split
  · exact h
  · exact ((detach_listsWithout h profiles i).putGrant _).enterWaiting (by simp [Grant.waits])

theorem visit_listsExact (h : ListsExact c) (profiles : Vector Profile 16) (i : SlotIx) :
    ListsExact (c.visit profiles i) := by
  rcases visit_cases profiles c i with hv | ⟨g, hg, he, ⟨s, -, hv⟩ | ⟨-, hv⟩⟩ <;> rw [hv]
  · exact h
  · exact activate_listsExact (detach_listsWithout h profiles i) _ _ _ _
  · have hw := eligible_waits he
    exact putGrant_listsExact h hg (by rw [hw]; rfl) (by rw [not_active_of_waits hw]; rfl) rfl

theorem retryPass_listsExact (h : ListsExact c) (profiles : Vector Profile 16) : ListsExact (c.retryPass profiles) :=
  retryPass_induct h fun _ i hd => visit_listsExact hd profiles i

theorem shedAll_listsExact (h : ListsExact c) (profiles : Vector Profile 16) : ListsExact (c.shedAll profiles) :=
  shedAll_induct h fun _ i _ hd => shed_listsExact hd profiles i

/-- Resizing rewrites the record of an ACTIVE grant, and moves no list. -/
theorem resize_listsExact (h : ListsExact c) (profiles : Vector Profile 16) (i : SlotIx) (f : Nat) :
    ListsExact (c.resize profiles i f) := by
  cases hg : c.grantAt i with
  | none => simpa only [Controller.resize, hg] using h
  | some g =>
    obtain ⟨hw, ha⟩ := resize_lists c profiles i f
    rcases standing_cases g with ⟨start, r, hs⟩ | hwaits | ⟨reason, hs⟩
    · have hact := isActive_of_active hs
      refine listsExact_of_grants (putGrant_listsExact (g' := { g with state := .active start f }) h hg
        (by rw [not_waits_of_active hact]; rfl) (by rw [hact]; rfl) rfl) (by rw [hw, putGrant_waiting]) (by rw [ha, putGrant_admission]) fun j => ?_
      by_cases e : j = i
      · subst e; rw [grantAt_def, resize_slot hg hs, putGrant_grantAt]
      · rw [grantAt_def, resize_slot_of_ne _ _ _ e, putGrant_grantAt_of_ne _ _ e, grantAt_def]
    · have : c.resize profiles i f = c := by
        unfold Grant.waits at hwaits
        cases hs : g.state <;> simp_all [Controller.resize]
      rw [this]; exact h
    · simpa only [Controller.resize, hg, hs] using h

theorem stepRamps_grantAt (c : Controller) (i : SlotIx) : c.stepRamps.grantAt i = (c.grantAt i).map Grant.stepped := by
  simp [grantAt_def, Controller.stepRamps]

/-- A step of a ramp moves no grant. -/
theorem stepped_state (g : Grant) : g.stepped.state = g.state := by unfold Grant.stepped; split <;> rfl
theorem stepped_priority (g : Grant) : g.stepped.priority = g.priority := by unfold Grant.stepped; split <;> rfl
theorem waits_of_state {g g' : Grant} (h : g'.state = g.state) : g'.waits = g.waits := by simp only [Grant.waits, h]
theorem isActive_of_state {g g' : Grant} (h : g'.state = g.state) : g'.isActive = g.isActive := by
  simp only [Grant.isActive, h]

theorem stepRamps_listsExact (h : ListsExact c) : ListsExact c.stepRamps := by
  refine listsExact_congr h (by simp only [Controller.stepRamps]) (by simp only [Controller.stepRamps]) (fun j => ?_)
    (fun j => ?_) fun j => ?_
  · rw [stepRamps_grantAt]; cases c.grantAt j <;> simp [waits_of_state (stepped_state _)]
  · rw [stepRamps_grantAt]; cases c.grantAt j <;> simp [isActive_of_state (stepped_state _)]
  · simp only [Controller.priorityAt, stepRamps_grantAt]; cases c.grantAt j <;> simp [stepped_priority]

/-! ## The apply (R88) -/

/-- A planned move rewrites the record of an ACTIVE grant: another start, for the adjusted grant also its need, target, rate and
notify. -/
theorem moveOne_cases (h : HeldRequest) (c : Controller) (q : Proposal) :
    moveOne h c q = c ∨ ∃ i g start r, q.entry.slot = some i ∧ c.grantAt i = some g ∧ g.state = .active start r ∧
      ((moveOne h c q = c.putGrant i { g with state := .active q.start r } ∧
          ((∃ handle target, h.kind = .adjust handle target) → c.adjusting i = false)) ∨
        (c.adjusting i = true ∧ ∃ handle target, h.kind = .adjust handle target ∧
          moveOne h c q = c.putGrant i (adjustedGrant g h target q.start))) := by
  unfold moveOne
  split
  · exact .inl rfl
  · rename_i i hi
    split
    · exact .inl rfl
    · rename_i g hg
      split
      · rename_i start r hs
        right
        refine ⟨i, g, start, r, hi, hg, hs, ?_⟩
        split
        · rename_i handle target hk
          split
          · rename_i ha; exact .inr ⟨ha, handle, target, hk, rfl⟩
          · rename_i ha; exact .inl ⟨rfl, fun _ => by simpa using ha⟩
        · rename_i hk; exact .inl ⟨rfl, fun ⟨_, _, e⟩ => by rw [hk] at e; cases e⟩
      · exact .inl rfl

theorem moveOne_listsExact (h : ListsExact c) (held : HeldRequest) (q : Proposal) : ListsExact (moveOne held c q) := by
  rcases moveOne_cases held c q with hm | ⟨i, g, start, r, -, hg, hs, ⟨hm, -⟩ | ⟨-, handle, target, -, hm⟩⟩ <;> rw [hm]
  · exact h
  all_goals
    have hact := isActive_of_active hs
    exact putGrant_listsExact h hg (by rw [not_waits_of_active hact]; rfl) (by rw [hact]; rfl) rfl

/-- What every planned move keeps, the moves of the plan keep. -/
theorem moved_induct {motive : Controller → Prop} {held : HeldRequest} {plan : List Proposal} (start : motive c)
    (each : ∀ d q, q ∈ plan → motive d → motive (moveOne held d q)) : motive (plan.foldl (moveOne held) c) :=
  foldl_induct start fun d q hq hd => each d q hq hd

/-- A planned move leaves a slot FREE, or another that it does not name, as it is. -/
theorem moveOne_grantAt_of_ne (held : HeldRequest) (c : Controller) {q : Proposal} {j : SlotIx}
    (h : q.entry.slot ≠ some j ∨ (c.grantAt j).any Grant.isActive = false) :
    (moveOne held c q).grantAt j = c.grantAt j := by
  rcases moveOne_cases held c q with hm | ⟨i, g, start, r, hi, hg, hs, hm⟩
  · rw [hm]
  · have ne : j ≠ i := by
      rintro rfl
      rcases h with h | h
      · exact h hi
      · simp [hg, isActive_of_active hs] at h
    rcases hm with ⟨hm, -⟩ | ⟨-, _, _, -, hm⟩ <;> rw [hm, putGrant_grantAt_of_ne _ _ ne]

theorem moved_grantAt_of_inactive (held : HeldRequest) (plan : List Proposal) {j : SlotIx}
    (h : (c.grantAt j).any Grant.isActive = false) : (plan.foldl (moveOne held) c).grantAt j = c.grantAt j :=
  moved_induct (motive := fun d => d.grantAt j = c.grantAt j) rfl fun d q _ hd =>
    (moveOne_grantAt_of_ne held d (.inr (by rw [hd]; exact h))).trans hd

/-- The grant a held GRANT creates goes to a FREE slot. -/
theorem createdBy_some {held : HeldRequest} {plan : List Proposal} {i : SlotIx} {g : Grant}
    (h : createdBy c held plan = some (i, g)) : ∃ ch prio duty lease start, held.kind = .grant ch prio duty lease ∧
      c.freeSlot = some i ∧ requesterStart plan = some start ∧
      g = newGrant (.active start held.needed) held.client ch prio duty held.rampRate held.rampNotify lease := by
  unfold createdBy at h
  split at h
  · rename_i ch prio duty lease hk
    split at h
    · rename_i j start hj hst
      obtain ⟨rfl, rfl⟩ := by simpa using h
      exact ⟨ch, prio, duty, lease, start, hk, hj, hst, rfl⟩
    · cases h
  · cases h

/-- The controller of the apply before map and charge are rebuilt: the plan's moves and the grant created (R88 steps 1 to 3). -/
def movedAndMade (c : Controller) (held : HeldRequest) (plan : List Proposal) : Controller :=
  let moved := plan.foldl (moveOne held) c
  match createdBy c held plan with
  | some (i, g) => { moved.putGrant i g with admission := moved.admission ++ [i] }
  | none => moved

@[simp] theorem rebuild_table (c : Controller) (profiles : Vector Profile 16) : (c.rebuild profiles).table = c.table := by
  simp only [Controller.rebuild]
@[simp] theorem rebuild_waiting (c : Controller) (profiles : Vector Profile 16) :
    (c.rebuild profiles).waiting = c.waiting := by simp only [Controller.rebuild]
@[simp] theorem rebuild_admission (c : Controller) (profiles : Vector Profile 16) :
    (c.rebuild profiles).admission = c.admission := by simp only [Controller.rebuild]

@[simp] theorem rebuild_tierInForce (c : Controller) (profiles : Vector Profile 16) :
    (c.rebuild profiles).tierInForce = c.tierInForce := by simp only [Controller.rebuild]
@[simp] theorem rebuild_peakInForce (c : Controller) (profiles : Vector Profile 16) :
    (c.rebuild profiles).peakInForce = c.peakInForce := by simp only [Controller.rebuild]
@[simp] theorem rebuild_chargeInForce (c : Controller) (profiles : Vector Profile 16) :
    (c.rebuild profiles).chargeInForce = c.chargeInForce := by simp only [Controller.rebuild]
@[simp] theorem rebuild_planSerial (c : Controller) (profiles : Vector Profile 16) :
    (c.rebuild profiles).planSerial = c.planSerial := by simp only [Controller.rebuild]

/-- Moves and creation leave the waiting list, the ceilings and the plan serial as they are. -/
theorem movedAndMade_kept (c : Controller) (held : HeldRequest) (plan : List Proposal) :
    (movedAndMade c held plan).waiting = c.waiting ∧ (movedAndMade c held plan).tierInForce = c.tierInForce ∧
    (movedAndMade c held plan).peakInForce = c.peakInForce ∧ (movedAndMade c held plan).chargeInForce = c.chargeInForce ∧
    (movedAndMade c held plan).planSerial = c.planSerial := by
  have moved : ∀ d, d = plan.foldl (moveOne held) c → d.waiting = c.waiting ∧ d.tierInForce = c.tierInForce ∧
      d.peakInForce = c.peakInForce ∧ d.chargeInForce = c.chargeInForce ∧ d.planSerial = c.planSerial := by
    rintro d rfl
    refine moved_induct (motive := fun d => d.waiting = c.waiting ∧ d.tierInForce = c.tierInForce ∧
      d.peakInForce = c.peakInForce ∧ d.chargeInForce = c.chargeInForce ∧ d.planSerial = c.planSerial)
      ⟨rfl, rfl, rfl, rfl, rfl⟩ fun d q _ hd => ?_
    rcases moveOne_cases held d q with hm | ⟨i, g, start, r, -, -, -, ⟨hm, -⟩ | ⟨-, handle, target, -, hm⟩⟩ <;> rw [hm]
    · exact hd
    all_goals simpa only [putGrant_waiting, putGrant_tierInForce, putGrant_peakInForce, putGrant_chargeInForce,
        putGrant_planSerial] using hd
  unfold movedAndMade
  split
  · simpa only [putGrant_waiting, putGrant_tierInForce, putGrant_peakInForce, putGrant_chargeInForce,
      putGrant_planSerial] using moved _ rfl
  · exact moved _ rfl

theorem movedAndMade_tierInForce (c : Controller) (held : HeldRequest) (plan : List Proposal) :
    (movedAndMade c held plan).tierInForce = c.tierInForce := (movedAndMade_kept c held plan).2.1

theorem appliedController_eq (c : Controller) (profiles : Vector Profile 16) (held : HeldRequest) (plan : List Proposal) :
    appliedController c profiles held plan = withoutRepack ((movedAndMade c held plan).rebuild profiles) := by
  unfold appliedController movedAndMade
  generalize plan.foldl (moveOne held) c = moved
  generalize createdBy c held plan = made
  cases made <;> rfl

theorem applied_grantAt (c : Controller) (profiles : Vector Profile 16) (held : HeldRequest) (plan : List Proposal)
    (j : SlotIx) : (appliedController c profiles held plan).grantAt j = (movedAndMade c held plan).grantAt j := by
  rw [appliedController_eq, withoutRepack_grantAt, grantAt_of_table (rebuild_table _ _)]

theorem movedAndMade_listsExact (h : ListsExact c) (held : HeldRequest) (plan : List Proposal) :
    ListsExact (movedAndMade c held plan) := by
  have moved : ListsExact (plan.foldl (moveOne held) c) :=
    moved_induct h fun d q _ hd => moveOne_listsExact hd held q
  unfold movedAndMade
  dsimp only
  split
  · rename_i i g hc
    obtain ⟨ch, prio, duty, lease, start, -, hfree, -, rfl⟩ := createdBy_some hc
    have free : (plan.foldl (moveOne held) c).grantAt i = none := by
      rw [moved_grantAt_of_inactive held plan (by rw [freeSlot_free hfree]; rfl), freeSlot_free hfree]
    exact ((listsWithout_of_free moved free).putGrant _).appended (by simp [newGrant, Grant.isActive]) rfl rfl fun _ => rfl
  · exact moved

end

/-! ## Every move -/

theorem cleared_listsExact {s : State} {ch : Channel} {c : Controller} (h : ListsExact s.ctl) (hc : Cleared s ch c) :
    ListsExact c := by
  cases hc with
  | free => exact h
  | preempted => exact preempt_listsExact h _ _

/-- A holder's preemption leaves a FREE slot FREE. -/
theorem cleared_grantAt_free {s : State} {ch : Channel} {c : Controller} {i : SlotIx} (hc : Cleared s ch c)
    (h : s.ctl.grantAt i = none) : c.grantAt i = none := by
  cases hc with
  | free => exact h
  | @preempted j hj =>
    have hj' : (s.ctl.grantAt j).any (fun g => g.holds && g.channel == ch) = true := by
      simpa [Controller.holder, Controller.findSlot] using List.find?_some hj
    have ne : i ≠ j := by rintro rfl; simp [h] at hj'
    rw [grantAt_def, preempt_slot_of_ne _ _ ne, ← grantAt_def]; exact h

theorem freeAll_listsExact (c : Controller) : ListsExact c.freeAll := by
  have hw : c.freeAll.waiting = [] := by simp only [Controller.freeAll]
  have ha : c.freeAll.admission = [] := by simp only [Controller.freeAll]
  exact ⟨by simp [hw], by simp [ha], by simp [hw], by simp [ha], by simp [hw]⟩

theorem Move.listsExact {frees : Prop} {s t : State} (m : Move frees s t) (h : ListsExact s.ctl) : ListsExact t.ctl := by
  cases m with
  | quiet _ ctl => exact listsExact_of_grants h (same_waiting ctl) (same_admission ctl) (same_grantAt ctl)
  | createActive allowed cleared =>
    exact activate_listsExact (listsWithout_of_free (cleared_listsExact h cleared)
      (cleared_grantAt_free cleared allowed.free)) _ _ _ _
  | createDeferred allowed cleared =>
    exact createWaiting_listsExact (listsWithout_of_free (cleared_listsExact h cleared)
      (cleared_grantAt_free cleared allowed.free)) _ _ _ (.inl rfl)
  | createQueued allowed => exact createWaiting_listsExact (listsWithout_of_free h allowed.free) _ _ _ (.inr rfl)
  | rewrite here same =>
    exact putGrant_listsExact h here (waits_of_state same.state) (isActive_of_state same.state) same.priority
  | shrink => exact resize_listsExact h _ _ _
  | grow => exact resize_listsExact h _ _ _
  | stepRamps => exact stepRamps_listsExact h
  | free _ i => exact free_listsExact h _ i
  | retire i reason => exact retire_listsExact h _ i reason
  | visit i => exact visit_listsExact h _ i
  | endRepack => exact h
  | startGrant => exact h
  | startAdjust => exact h
  | planReady => exact h
  | @apply held plan =>
    refine listsExact_of_grants (movedAndMade_listsExact h held plan) ?_ ?_ fun j => ?_
    · simp only [dropPlan_ctl, withCtl_ctl, appliedController_eq, withoutRepack_waiting, rebuild_waiting]
    · simp only [dropPlan_ctl, withCtl_ctl, appliedController_eq, withoutRepack_admission, rebuild_admission]
    · rw [dropPlan_ctl, withCtl_ctl]; exact applied_grantAt _ _ _ _ _
  | tierDrop =>
    have loaded := fun tier => listsExact_of_grants (d := s.ctl.loadTier s.config.tiers tier) h (loadTier_waiting _ _ _)
      (loadTier_admission _ _ _) fun j => grantAt_of_table (loadTier_table _ _ _) j
    exact shedAll_listsExact (loaded _) _
  | tierLoad => exact h
  | configure => exact h
  | setTiers => exact h
  | start => exact h
  | stop => exact freeAll_listsExact _
  | clear =>
    have freed := freeAll_listsExact s.ctl
    exact listsExact_of_grants (d := s.ctl.clearAll) freed (loadTier_waiting _ _ _) (loadTier_admission _ _ _)
      fun j => grantAt_of_table (loadTier_table _ _ _) j

theorem reset_listsExact : ListsExact State.reset.ctl :=
  ⟨by simp [State.reset, Controller.reset], by simp [State.reset, Controller.reset],
    fun i => by rw [reset_grantAt]; simp [State.reset, Controller.reset],
    fun i => by rw [reset_grantAt]; simp [State.reset, Controller.reset], by simp [State.reset, Controller.reset]⟩

/-- Settles O3: every move keeps the two lists exact. -/
theorem listsKept : Obligations.ListsKept := fun _ _ hs h =>
  step_keeps (P := fun s => ListsExact s.ctl) (fun _ _ h => h) (fun _ => reset_listsExact)
    (fun _ _ _ _ h => by simpa only [markTaken_ctl] using h) (fun _ _ _ m h => m.listsExact h) hs h

end Sys2Proof.Proofs
end

section
/-! SUPPORT. What each move leaves in each slot, and from it the laws of R12 and R53 under every move. -/

namespace Sys2Proof.Proofs

open Sys2Proof Sys2Proof.Machine Sys2Proof.Safety Sys2Proof.Laws

/-! ## The slots after a move of one grant -/

section
variable (c : Controller) (profiles : Vector Profile 16) {i j : SlotIx}

theorem activate_grantAt (i : SlotIx) (g : Grant) (s : Segment) (f : Nat) :
    (c.activate profiles i g s f).grantAt i = some { g with state := .active s f } := by
  rw [grantAt_def, activate_slot]
theorem activate_grantAt_of_ne (g : Grant) (s : Segment) (f : Nat) (h : j ≠ i) :
    (c.activate profiles i g s f).grantAt j = c.grantAt j := by
  rw [grantAt_def, activate_slot_of_ne _ _ _ _ _ h, grantAt_def]

theorem createActive_grantAt (a : GrantArgs) (who : Client) (i : SlotIx) (s : Segment) :
    (c.createActive profiles a who i s).grantAt i =
      some (grantRecord a who profiles[a.channel] (.active s (footprint a.duty))) := by
  rw [Controller.createActive, activate_grantAt]; rfl
theorem createActive_grantAt_of_ne (a : GrantArgs) (who : Client) (s : Segment) (h : j ≠ i) :
    (c.createActive profiles a who i s).grantAt j = c.grantAt j := activate_grantAt_of_ne c profiles _ s _ h

theorem createWaiting_table (a : GrantArgs) (who : Client) (i : SlotIx) (state : GrantState) :
    (c.createWaiting profiles a who i state).table =
      (c.putGrant i (grantRecord a who profiles[a.channel] state)).table := by
  simp only [Controller.createWaiting, enterWaiting_table]
theorem createWaiting_grantAt (a : GrantArgs) (who : Client) (i : SlotIx) (state : GrantState) :
    (c.createWaiting profiles a who i state).grantAt i = some (grantRecord a who profiles[a.channel] state) := by
  rw [grantAt_of_table (createWaiting_table _ _ _ _ _ _), putGrant_grantAt]
theorem createWaiting_grantAt_of_ne (a : GrantArgs) (who : Client) (state : GrantState) (h : j ≠ i) :
    (c.createWaiting profiles a who i state).grantAt j = c.grantAt j := by
  rw [grantAt_of_table (createWaiting_table _ _ _ _ _ _), putGrant_grantAt_of_ne _ _ h]

@[simp] theorem free_grantAt (i : SlotIx) : (c.free profiles i).grantAt i = none := by rw [grantAt_def, free_slot]
theorem free_grantAt_of_ne (h : j ≠ i) : (c.free profiles i).grantAt j = c.grantAt j := by
  rw [grantAt_def, free_slot_of_ne _ _ h, grantAt_def]

theorem retire_grantAt {c : Controller} {g : Grant} (h : c.grantAt i = some g) (r : CloseReason) :
    (c.retire profiles i r).grantAt i =
      some { g with state := .closed r, notices := { g.notices with closed := true } } := by
  rw [grantAt_def, retire_slot h]
theorem retire_grantAt_of_ne (r : CloseReason) (h : j ≠ i) : (c.retire profiles i r).grantAt j = c.grantAt j := by
  rw [grantAt_def, retire_slot_of_ne _ _ _ h, grantAt_def]
theorem retire_of_free {c : Controller} (h : c.grantAt i = none) (r : CloseReason) : c.retire profiles i r = c := by
  simp only [Controller.retire, h]

theorem shed_grantAt {c : Controller} {g : Grant} (h : c.grantAt i = some g) : (c.shed profiles i).grantAt i =
    some { g with state := .deferred, notices := { g.notices with shed := true } } := by
  rw [grantAt_def, shed_slot h]
theorem shed_grantAt_of_ne (h : j ≠ i) : (c.shed profiles i).grantAt j = c.grantAt j := by
  rw [grantAt_def, shed_slot_of_ne _ _ h, grantAt_def]
theorem shed_of_free {c : Controller} (h : c.grantAt i = none) : c.shed profiles i = c := by
  simp only [Controller.shed, h]

theorem preempt_grantAt {c : Controller} {g : Grant} (h : c.grantAt i = some g) : (c.preempt profiles i).grantAt i =
    some { g with state := .queued, notices := { g.notices with preempted := true } } := by
  rw [grantAt_def, preempt_slot h]
theorem preempt_grantAt_of_ne (h : j ≠ i) : (c.preempt profiles i).grantAt j = c.grantAt j := by
  rw [grantAt_def, preempt_slot_of_ne _ _ h, grantAt_def]

theorem resize_grantAt {c : Controller} {g : Grant} {s : Segment} {r : Nat} (h : c.grantAt i = some g)
    (hs : g.state = .active s r) (f : Nat) : (c.resize profiles i f).grantAt i = some { g with state := .active s f } := by
  rw [grantAt_def, resize_slot h hs]
/-- Only an ACTIVE grant has a reservation to set. -/
theorem resize_of_inactive {c : Controller} (h : (c.grantAt i).any Grant.isActive = false) (f : Nat) :
    c.resize profiles i f = c := by
  unfold Controller.resize
  split
  · rename_i g hg
    split
    · rename_i hs; rw [hg] at h; exact absurd (isActive_of_active hs) (by simpa using h)
    · rfl
  · rfl
theorem resize_grantAt_of_ne (f : Nat) (h : j ≠ i) : (c.resize profiles i f).grantAt j = c.grantAt j := by
  rw [grantAt_def, resize_slot_of_ne _ _ _ h, grantAt_def]

theorem admitGrant_grantAt (i : SlotIx) (g : Grant) (s : Segment) : (c.admitGrant profiles i g s).grantAt i =
    some { g with state := .active s g.neededFootprint, notices := { g.notices with admitted := true } } := by
  rw [Controller.admitGrant, activate_grantAt]
theorem admitGrant_grantAt_of_ne (g : Grant) (s : Segment) (h : j ≠ i) :
    (c.admitGrant profiles i g s).grantAt j = c.grantAt j := by
  rw [Controller.admitGrant, activate_grantAt_of_ne _ _ _ _ _ h, detach_grantAt]
theorem promote_grantAt (i : SlotIx) (g : Grant) : (c.promote i g).grantAt i = some { g with state := .deferred } :=
  putGrant_grantAt _ _ _
theorem promote_grantAt_of_ne (g : Grant) (h : j ≠ i) : (c.promote i g).grantAt j = c.grantAt j :=
  putGrant_grantAt_of_ne _ _ h

end

/-! ## What the sheds leave alone -/

theorem ceilingsKept_refl (c : Controller) : CeilingsAndRepackKept c c := ⟨rfl, rfl, rfl, rfl, rfl, rfl⟩

theorem ceilingsKept_trans {c d e : Controller} (h : CeilingsAndRepackKept c d)
    (h' : CeilingsAndRepackKept d e) : CeilingsAndRepackKept c e := by
  obtain ⟨t, p, q, r, k, n⟩ := h
  obtain ⟨t', p', q', r', k', n'⟩ := h'
  exact ⟨t'.trans t, p'.trans p, q'.trans q, r'.trans r, k'.trans k, n'.trans n⟩

theorem shedAll_ceilings (profiles : Vector Profile 16) (c : Controller) :
    CeilingsAndRepackKept c (c.shedAll profiles) :=
  shedAll_induct (motive := CeilingsAndRepackKept c) (ceilingsKept_refl c) fun d i _ h =>
    ceilingsKept_trans h (by simp only [CeilingsAndRepackKept, shed_tierInForce, shed_peakInForce,
      shed_chargeInForce, shed_repack, shed_held, shed_planSerial, and_self])

/-! ## Holding and living -/

/-- The record stands for the same client and channel, and holds and lives only where the other does. -/
structure Below (g' g : Grant) : Prop where
  owner : g'.owner = g.owner
  channel : g'.channel = g.channel
  holds : g'.holds = true → g.holds = true
  living : g'.isLiving = true → g.isLiving = true

theorem Below.refl (g : Grant) : Below g g := ⟨rfl, rfl, id, id⟩
theorem Below.trans {g g' g'' : Grant} (h : Below g'' g') (h' : Below g' g) : Below g'' g :=
  ⟨h.owner.trans h'.owner, h.channel.trans h'.channel, h'.holds ∘ h.holds, h'.living ∘ h.living⟩

theorem holds_of_state {g g' : Grant} (h : g'.state = g.state) : g'.holds = g.holds := by
  simp only [Grant.holds, Grant.isActive, h]
theorem isLiving_of_state {g g' : Grant} (h : g'.state = g.state) : g'.isLiving = g.isLiving := by
  simp only [Grant.isLiving, Grant.isClosed, h]
theorem holds_of_active {g : Grant} (h : g.isActive = true) : g.holds = true := by simp [Grant.holds, h]
theorem living_of_active {g : Grant} (h : g.isActive = true) : g.isLiving = true := by
  obtain ⟨start, r, hs⟩ := isActive_iff.1 h
  simp [Grant.isLiving, Grant.isClosed, hs]
theorem living_of_waits {g : Grant} (h : g.waits = true) : g.isLiving = true := by
  unfold Grant.waits at h
  cases hs : g.state <;> simp_all [Grant.isLiving, Grant.isClosed]
theorem holds_of_deferred {g : Grant} (h : g.state = .deferred) : g.holds = true := by simp [Grant.holds, h]
/-- A holder lives. -/
theorem living_of_holds {g : Grant} (h : g.holds = true) : g.isLiving = true := by
  unfold Grant.holds Grant.isActive at h
  cases hs : g.state <;> simp_all [Grant.isLiving, Grant.isClosed]

theorem SameStanding.below {g g' : Grant} (h : SameStanding g g') : Below g' g :=
  ⟨h.owner, h.channel, fun k => by rwa [← holds_of_state h.state], fun k => by rwa [← isLiving_of_state h.state]⟩

/-- Every grant of d stands in c, and holds and lives there if it does in d. -/
def EachBelow (c d : Controller) : Prop :=
  ∀ j g', d.grantAt j = some g' → ∃ g, c.grantAt j = some g ∧ Below g' g

theorem EachBelow.of_grants {c d : Controller} (h : ∀ j, d.grantAt j = c.grantAt j) : EachBelow c d :=
  fun j g' hg => ⟨g', by rw [← h j]; exact hg, .refl g'⟩
theorem EachBelow.refl (c : Controller) : EachBelow c c := .of_grants fun _ => rfl
theorem EachBelow.trans {c d e : Controller} (h : EachBelow c d) (h' : EachBelow d e) : EachBelow c e := by
  intro j g'' hg
  obtain ⟨g', hg', b'⟩ := h' j g'' hg
  obtain ⟨g, hg, b⟩ := h j g' hg'
  exact ⟨g, hg, b'.trans b⟩

/-- One slot's record falls below what it was, or goes. -/
theorem EachBelow.of_one {c d : Controller} {i : SlotIx} (others : ∀ j, j ≠ i → d.grantAt j = c.grantAt j)
    (here : ∀ g', d.grantAt i = some g' → ∃ g, c.grantAt i = some g ∧ Below g' g) : EachBelow c d := by
  intro j g' hg
  by_cases e : j = i
  · subst e; exact here g' hg
  · exact ⟨g', by rw [← others j e]; exact hg, .refl g'⟩

section
variable {c d : Controller} {i : SlotIx} (profiles : Vector Profile 16)

theorem putGrant_eachBelow {g g' : Grant} (h : c.grantAt i = some g) (b : Below g' g) : EachBelow c (c.putGrant i g') :=
  .of_one (fun _ => putGrant_grantAt_of_ne _ _) fun x hx => by
    rw [putGrant_grantAt] at hx; cases hx; exact ⟨g, h, b⟩

theorem free_eachBelow (c : Controller) (i : SlotIx) : EachBelow c (c.free profiles i) :=
  .of_one (fun _ => free_grantAt_of_ne c profiles) fun x hx => by rw [free_grantAt] at hx; cases hx

theorem retire_eachBelow (c : Controller) (i : SlotIx) (r : CloseReason) : EachBelow c (c.retire profiles i r) := by
  cases hg : c.grantAt i with
  | none => rw [retire_of_free profiles hg]; exact .refl c
  | some g =>
    refine .of_one (fun _ => retire_grantAt_of_ne c profiles r) fun x hx => ⟨g, hg, ?_⟩
    rw [retire_grantAt profiles hg] at hx; cases hx
    exact ⟨rfl, rfl, by simp [Grant.holds, Grant.isActive], by simp [Grant.isLiving, Grant.isClosed]⟩

theorem shed_eachBelow (c : Controller) (i : SlotIx) (ha : (c.grantAt i).any Grant.isActive = true) :
    EachBelow c (c.shed profiles i) := by
  cases hg : c.grantAt i with
  | none => rw [shed_of_free profiles hg]; exact .refl c
  | some g =>
    have act : g.isActive = true := by simpa [hg] using ha
    refine .of_one (fun _ => shed_grantAt_of_ne c profiles) fun x hx => ⟨g, hg, ?_⟩
    rw [shed_grantAt profiles hg] at hx; cases hx
    exact ⟨rfl, rfl, fun _ => holds_of_active act, fun _ => living_of_active act⟩

theorem resize_eachBelow {g : Grant} {start : Segment} {r : Nat} (hg : c.grantAt i = some g)
    (hs : g.state = .active start r) (f : Nat) : EachBelow c (c.resize profiles i f) := by
  refine .of_one (fun _ => resize_grantAt_of_ne c profiles f) fun x hx => ⟨g, hg, ?_⟩
  rw [resize_grantAt profiles hg hs] at hx; cases hx
  have act := isActive_of_active hs
  exact ⟨rfl, rfl, fun _ => holds_of_active act, fun _ => living_of_active act⟩

theorem stepped_owner (g : Grant) : g.stepped.owner = g.owner := by unfold Grant.stepped; split <;> rfl
theorem stepped_channel (g : Grant) : g.stepped.channel = g.channel := by unfold Grant.stepped; split <;> rfl

theorem stepRamps_eachBelow (c : Controller) : EachBelow c c.stepRamps := by
  intro j g' hg'
  rw [stepRamps_grantAt, Option.map_eq_some_iff] at hg'
  obtain ⟨g, hg, rfl⟩ := hg'
  exact ⟨g, hg, stepped_owner g, stepped_channel g, fun h => by rwa [← holds_of_state (stepped_state g)],
    fun h => by rwa [← isLiving_of_state (stepped_state g)]⟩

/-- A preempted holder still lives, and holds no more. -/
theorem preempt_eachBelow {g : Grant} (hg : c.grantAt i = some g) (hh : g.holds = true) :
    EachBelow c (c.preempt profiles i) := by
  refine .of_one (fun _ => preempt_grantAt_of_ne c profiles) fun x hx => ⟨g, hg, ?_⟩
  rw [preempt_grantAt profiles hg] at hx; cases hx
  exact ⟨rfl, rfl, fun _ => hh, fun _ => living_of_holds hh⟩

/-- What shedAll sheds is ACTIVE. -/
theorem nextShed_active {c : Controller} {i : SlotIx} (h : c.nextShed = some i) :
    (c.grantAt i).any Grant.isActive = true := by
  obtain ⟨-, g, hg, ha⟩ := nextShed_mem h
  simp [hg, ha]

theorem shedAll_eachBelow (c : Controller) : EachBelow c (c.shedAll profiles) :=
  shedAll_induct (motive := EachBelow c) (.refl c) fun d i hi hd =>
    hd.trans (shed_eachBelow profiles d i (nextShed_active hi))

theorem moveOne_eachBelow (held : HeldRequest) (c : Controller) (q : Proposal) : EachBelow c (moveOne held c q) := by
  rcases moveOne_cases held c q with hm | ⟨i, g, start, r, -, hg, hs, ⟨hm, -⟩ | ⟨-, handle, target, -, hm⟩⟩ <;> rw [hm]
  · exact .refl c
  all_goals
    have act := isActive_of_active hs
    exact putGrant_eachBelow hg ⟨rfl, rfl, fun _ => holds_of_active act, fun _ => living_of_active act⟩

theorem moved_eachBelow (held : HeldRequest) (c : Controller) (plan : List Proposal) :
    EachBelow c (plan.foldl (moveOne held) c) :=
  moved_induct (motive := EachBelow c) (.refl c) fun d q _ hd => hd.trans (moveOne_eachBelow held d q)

end

/-! ## R12 and R53 under every move -/

/-- The two laws together. -/
def Holders (c : Controller) : Prop := OneHolder c ∧ OneLivingPerClient c

/-- Where nothing rises, the laws stay. -/
theorem Holders.of_below {c d : Controller} (h : Holders c) (below : EachBelow c d)
    (held : ∀ client ch, grantHeldFor d client ch → grantHeldFor c client ch) : Holders d := by
  obtain ⟨⟨oneHolder, freeChannel⟩, oneLiving, noneYet⟩ := h
  refine ⟨⟨?_, ?_⟩, ?_, ?_⟩
  · intro i j gi gj hi hj ki kj e
    obtain ⟨gi', hi', bi⟩ := below i gi hi
    obtain ⟨gj', hj', bj⟩ := below j gj hj
    exact oneHolder i j gi' gj' hi' hj' (bi.holds ki) (bj.holds kj) (by rw [← bi.channel, e, bj.channel])
  · intro client ch hf i g hg k
    obtain ⟨g', hg', b⟩ := below i g hg
    rw [b.channel]; exact freeChannel client ch (held _ _ hf) i g' hg' (b.holds k)
  · intro i j gi gj hi hj ki kj o e
    obtain ⟨gi', hi', bi⟩ := below i gi hi
    obtain ⟨gj', hj', bj⟩ := below j gj hj
    exact oneLiving i j gi' gj' hi' hj' (bi.living ki) (bj.living kj) (by rw [← bi.owner, o, bj.owner])
      (by rw [← bi.channel, e, bj.channel])
  · intro client ch hf i g hg k o
    obtain ⟨g', hg', b⟩ := below i g hg
    rw [b.channel]; exact noneYet client ch (held _ _ hf) i g' hg' (b.living k) (by rw [← b.owner, o])

theorem not_grantHeldFor_of_idle {c : Controller} (h : c.inFlight = false) (client : Client) (ch : Channel) :
    ¬ grantHeldFor c client ch := fun ⟨hf, _⟩ => by rw [h] at hf; cases hf

/-- While no repack is in flight one grant may rise in a slot: if it holds, to a channel without another holder; if it lives, for
a client without another living grant on the channel. -/
theorem Holders.of_one_new {c d : Controller} {i : SlotIx} {g : Grant} (h : Holders c) (idle : d.inFlight = false)
    (below : ∀ j, j ≠ i → ∀ g', d.grantAt j = some g' → ∃ g, c.grantAt j = some g ∧ Below g' g)
    (here : d.grantAt i = some g)
    (alone : g.holds = true → ∀ j, j ≠ i → ∀ g', c.grantAt j = some g' → g'.holds = true → g'.channel ≠ g.channel)
    (single : ∀ j, j ≠ i → ∀ g', c.grantAt j = some g' → g'.isLiving = true → g'.owner = g.owner →
      g'.channel ≠ g.channel) : Holders d := by
  obtain ⟨⟨oneHolder, -⟩, oneLiving, -⟩ := h
  refine ⟨⟨?_, fun client ch hf => absurd hf (not_grantHeldFor_of_idle idle _ _)⟩, ?_,
    fun client ch hf => absurd hf (not_grantHeldFor_of_idle idle _ _)⟩
  · intro a b ga gb ha hb ka kb e
    by_cases ea : a = i <;> by_cases eb : b = i
    · rw [ea, eb]
    · subst ea
      obtain rfl : g = ga := by simpa [here] using ha
      obtain ⟨gb', hb', bb⟩ := below b eb gb hb
      exact absurd (by rw [e, bb.channel]) (alone ka b eb gb' hb' (bb.holds kb))
    · subst eb
      obtain rfl : g = gb := by simpa [here] using hb
      obtain ⟨ga', ha', ba⟩ := below a ea ga ha
      exact absurd (by rw [← e, ba.channel]) (alone kb a ea ga' ha' (ba.holds ka))
    · obtain ⟨ga', ha', ba⟩ := below a ea ga ha
      obtain ⟨gb', hb', bb⟩ := below b eb gb hb
      exact oneHolder a b ga' gb' ha' hb' (ba.holds ka) (bb.holds kb) (by rw [← ba.channel, e, bb.channel])
  · intro a b ga gb ha hb ka kb o e
    by_cases ea : a = i <;> by_cases eb : b = i
    · rw [ea, eb]
    · subst ea
      obtain rfl : g = ga := by simpa [here] using ha
      obtain ⟨gb', hb', bb⟩ := below b eb gb hb
      exact absurd (by rw [e, bb.channel]) (single b eb gb' hb' (bb.living kb) (by rw [← bb.owner, o]))
    · subst eb
      obtain rfl : g = gb := by simpa [here] using hb
      obtain ⟨ga', ha', ba⟩ := below a ea ga ha
      exact absurd (by rw [← e, ba.channel]) (single a ea ga' ha' (ba.living ka) (by rw [← ba.owner, o]))
    · obtain ⟨ga', ha', ba⟩ := below a ea ga ha
      obtain ⟨gb', hb', bb⟩ := below b eb gb hb
      exact oneLiving a b ga' gb' ha' hb' (ba.living ka) (bb.living kb) (by rw [← ba.owner, o, bb.owner])
        (by rw [← ba.channel, e, bb.channel])

/-! ### Searches of the table -/

theorem findSlot_none {c : Controller} {test : Grant → Bool} (h : c.findSlot test = none) {i : SlotIx} {g : Grant}
    (hg : c.grantAt i = some g) : test g = false := by
  have := List.find?_eq_none.1 h i (List.mem_finRange i)
  simpa [hg] using this

theorem findSlot_some {c : Controller} {test : Grant → Bool} {i : SlotIx} (h : c.findSlot test = some i) :
    ∃ g, c.grantAt i = some g ∧ test g = true := by
  have := List.find?_some h
  cases hg : c.grantAt i with
  | none => simp [hg] at this
  | some g => exact ⟨g, rfl, by simpa [hg] using this⟩

theorem holder_none {c : Controller} {ch : Channel} (h : c.holder ch = none) {i : SlotIx} {g : Grant}
    (hg : c.grantAt i = some g) (hh : g.holds = true) : g.channel ≠ ch := by
  have := findSlot_none h hg
  simpa [hh] using this

theorem holder_some {c : Controller} {ch : Channel} {i : SlotIx} (h : c.holder ch = some i) :
    ∃ g, c.grantAt i = some g ∧ g.holds = true ∧ g.channel = ch := by
  obtain ⟨g, hg, ht⟩ := findSlot_some h
  exact ⟨g, hg, by simpa using ht⟩

theorem hasLiving_false {c : Controller} {who : Client} {ch : Channel} (h : c.hasLiving who ch = false) {i : SlotIx}
    {g : Grant} (hg : c.grantAt i = some g) (hl : g.isLiving = true) (ho : g.owner = who) : g.channel ≠ ch := by
  have hn : c.findSlot (fun g => g.isLiving && g.owner == who && g.channel == ch) = none := by
    simpa [Controller.hasLiving] using h
  have := findSlot_none hn hg
  simpa [hl, ho] using this

/-! ### A GRANT's channel cleared -/

theorem Cleared.eachBelow {s : State} {ch : Channel} {c : Controller} (h : Cleared s ch c) : EachBelow s.ctl c := by
  cases h with
  | free => exact .refl _
  | preempted hj =>
    obtain ⟨g, hg, hh, -⟩ := holder_some hj
    exact preempt_eachBelow _ hg hh

theorem Cleared.inFlight {s : State} {ch : Channel} {c : Controller} (h : Cleared s ch c) :
    c.inFlight = s.ctl.inFlight := by
  cases h <;> simp only [Controller.inFlight, preempt_repack]

/-- In a cleared channel there is no holder (R12). -/
theorem Cleared.no_holder {s : State} {ch : Channel} {c : Controller} (h : Cleared s ch c) (hs : Holders s.ctl)
    {i : SlotIx} {g : Grant} (hg : c.grantAt i = some g) (hh : g.holds = true) : g.channel ≠ ch := by
  cases h with
  | free none => exact holder_none none hg hh
  | @preempted j hj =>
    obtain ⟨gj, hgj, hhj, hch⟩ := holder_some hj
    by_cases e : i = j
    · subst e
      rw [preempt_grantAt _ hgj] at hg; cases hg
      simp [Grant.holds, Grant.isActive] at hh
    · rw [preempt_grantAt_of_ne _ _ e] at hg
      rintro rfl
      exact e (hs.1.1 i j g gj hg hgj hh hhj hch.symm)

/-- A new grant on a cleared channel, for a client without a living grant there. -/
theorem Cleared.holders {s : State} {a : GrantArgs} {who : Client} {i : SlotIx} {c d : Controller}
    (cleared : Cleared s a.channel c) (allowed : GrantAllowed s a who i) (h : Holders s.ctl) {state : GrantState}
    (idle : d.inFlight = c.inFlight) (others : ∀ j, j ≠ i → d.grantAt j = c.grantAt j)
    (here : d.grantAt i = some (grantRecord a who s.config.profiles[a.channel] state)) : Holders d := by
  have hc : Holders c := h.of_below cleared.eachBelow fun client ch hf =>
    absurd hf (not_grantHeldFor_of_idle (by rw [cleared.inFlight]; exact allowed.idle) _ _)
  refine hc.of_one_new (by rw [idle, cleared.inFlight]; exact allowed.idle)
    (fun j hj g' hg' => ⟨g', by rw [← others j hj]; exact hg', .refl g'⟩) here
    (fun _ j _ g' hg' hh => cleared.no_holder h hg' hh) fun j _ g' hg' hl ho => ?_
  obtain ⟨g, hg, b⟩ := cleared.eachBelow j g' hg'
  rw [b.channel]
  exact hasLiving_false allowed.single hg (b.living hl) (b.owner.symm.trans ho)

theorem visit_holders {c : Controller} (h : Holders c) (idle : c.inFlight = false) (profiles : Vector Profile 16)
    (i : SlotIx) : Holders (c.visit profiles i) := by
  have risen : ∀ {d : Controller} {g g' : Grant}, c.grantAt i = some g → c.eligible g = true → d.inFlight = false →
      (∀ j, j ≠ i → d.grantAt j = c.grantAt j) → d.grantAt i = some g' → g'.channel = g.channel → g'.owner = g.owner →
      Holders d := by
    intro d g g' hg he hd others here hch ho
    refine h.of_one_new hd (fun j hj x hx => ⟨x, by rw [← others j hj]; exact hx, .refl x⟩) here ?_ ?_
    · intro _ j hj x hx hh
      rw [hch]
      simp only [Controller.eligible, Bool.or_eq_true, Bool.and_eq_true, beq_iff_eq, Option.isNone_iff_eq_none] at he
      rcases he with hdef | ⟨-, hnone⟩
      · exact fun e => hj (h.1.1 j i x g hx hg hh (holds_of_deferred hdef) e)
      · exact holder_none hnone hx hh
    · intro j hj x hx hl hox e
      exact hj (h.2.1 j i x g hx hg hl (living_of_waits (eligible_waits he)) (hox.trans ho) (e.trans hch))
  have keep : ∀ d : Controller, CeilingsAndRepackKept c d → d.inFlight = false := by
    rintro d ⟨-, -, -, hr, -⟩; simpa only [Controller.inFlight, hr] using idle
  have hv := keep _ (visit_ceilings profiles c i)
  rcases visit_cases profiles c i with e | ⟨g, hg, he, ⟨s, -, e⟩ | ⟨-, e⟩⟩ <;> rw [e] at hv ⊢
  · exact h
  · exact risen hg he hv (fun j hj => admitGrant_grantAt_of_ne c profiles g s hj) (admitGrant_grantAt _ _ _ _ _) rfl rfl
  · exact risen hg he hv (fun j hj => promote_grantAt_of_ne c g hj) (promote_grantAt _ _ _) rfl rfl

/-- The apply creates the held GRANT's grant, whose channel and client its law keeps clear. -/
theorem movedAndMade_holders {c d : Controller} {held : HeldRequest} (h : Holders c) (flying : c.inFlight = true)
    (hheld : c.held = some held) (plan : List Proposal) (idle : d.inFlight = false)
    (hd : ∀ j, d.grantAt j = (movedAndMade c held plan).grantAt j) : Holders d := by
  have moved := moved_eachBelow held c plan
  unfold movedAndMade at hd
  cases hc : createdBy c held plan with
  | none =>
    simp only [hc] at hd
    exact h.of_below (moved.trans (.of_grants hd)) fun client ch hf => absurd hf (not_grantHeldFor_of_idle idle _ _)
  | some made =>
    obtain ⟨i, g⟩ := made
    obtain ⟨ch, prio, duty, lease, start, hk, hfree, -, rfl⟩ := createdBy_some hc
    simp only [hc] at hd
    have heldFor : grantHeldFor c held.client ch := ⟨flying, held, hheld, rfl, prio, duty, lease, hk⟩
    refine h.of_one_new idle (fun j hj g' hg' => moved j g' ?_) ((hd i).trans (putGrant_grantAt _ _ _))
      (fun _ j _ g' hg' hh => h.1.2 _ _ heldFor j g' hg' hh) fun j _ g' hg' hl ho => h.2.2 _ _ heldFor j g' hg' hl ho
    rw [hd j] at hg'
    exact (putGrant_grantAt_of_ne _ _ hj).symm.trans hg'

theorem Move.holders {frees : Prop} {s t : State} (m : Move frees s t) (h : Holders s.ctl) : Holders t.ctl := by
  have keep : ∀ {d : Controller}, EachBelow s.ctl d → d.inFlight = s.ctl.inFlight → d.held = s.ctl.held → Holders d :=
    fun {d} below hf hh => h.of_below below fun client ch ⟨flying, hk⟩ => ⟨hf ▸ flying, by rwa [← hh]⟩
  cases m with
  | quiet _ ctl => exact keep (.of_grants (same_grantAt ctl)) (same_inFlight ctl) (same_held ctl)
  | createActive allowed cleared =>
    exact cleared.holders allowed h (by simp only [Controller.inFlight, withCtl_ctl, Controller.createActive, activate_repack])
      (fun j hj => createActive_grantAt_of_ne _ _ _ _ _ hj) (createActive_grantAt _ _ _ _ _ _)
  | createDeferred allowed cleared =>
    exact cleared.holders allowed h
      (by simp only [Controller.inFlight, withCtl_ctl, Controller.createWaiting, enterWaiting_repack, putGrant_repack])
      (fun j hj => createWaiting_grantAt_of_ne _ _ _ _ _ hj) (createWaiting_grantAt _ _ _ _ _ _)
  | createQueued allowed =>
    refine h.of_one_new (g := grantRecord _ _ _ .queued) ?_ (fun j hj g' hg' => ⟨g', ?_, .refl g'⟩)
      (createWaiting_grantAt _ _ _ _ _ _) (by simp [grantRecord, newGrant, Grant.holds, Grant.isActive])
      fun j _ g' hg' hl ho => hasLiving_false allowed.single hg' hl ho
    · have idle := allowed.idle
      simpa only [Controller.inFlight, withCtl_ctl, Controller.createWaiting, enterWaiting_repack, putGrant_repack] using idle
    · exact (createWaiting_grantAt_of_ne _ _ _ _ _ hj).symm.trans hg'
  | rewrite here same =>
    exact keep (putGrant_eachBelow here same.below) (by simp only [withCtl_ctl, Controller.inFlight, putGrant_repack])
      (by simp only [withCtl_ctl, putGrant_held])
  | shrink here active =>
    exact keep (resize_eachBelow _ here active _) (by simp only [withCtl_ctl, Controller.inFlight, resize_repack])
      (by simp only [withCtl_ctl, resize_held])
  | grow here active =>
    exact keep (resize_eachBelow _ here active _) (by simp only [withCtl_ctl, Controller.inFlight, resize_repack])
      (by simp only [withCtl_ctl, resize_held])
  | stepRamps =>
    exact keep (stepRamps_eachBelow _) (by simp only [withCtl_ctl, Controller.inFlight, Controller.stepRamps])
      (by simp only [withCtl_ctl, Controller.stepRamps])
  | free _ i =>
    exact keep (free_eachBelow _ _ i) (by simp only [withCtl_ctl, Controller.inFlight, free_repack])
      (by simp only [withCtl_ctl, free_held])
  | retire i reason =>
    exact keep (retire_eachBelow _ _ i reason) (by simp only [withCtl_ctl, Controller.inFlight, retire_repack])
      (by simp only [withCtl_ctl, retire_held])
  | visit i idle => exact visit_holders h idle _ i
  | endRepack =>
    exact h.of_below (.of_grants fun _ => rfl) fun client ch hf => absurd hf (not_grantHeldFor_of_idle rfl _ _)
  | startGrant allowed alone =>
    refine ⟨⟨h.1.1, ?_⟩, h.2.1, ?_⟩
    · rintro client ch ⟨-, held, hheld, -, p, d, l, hk⟩ i g hg hh
      obtain rfl := Option.some.inj hheld
      obtain ⟨rfl, -⟩ := by simpa [heldGrant] using hk
      exact holder_none alone hg hh
    · rintro client ch ⟨-, held, hheld, rfl, p, d, l, hk⟩ i g hg hl ho
      obtain rfl := Option.some.inj hheld
      obtain ⟨rfl, -⟩ := by simpa [heldGrant] using hk
      exact hasLiving_false allowed.single hg hl ho
  | startAdjust =>
    refine h.of_below (.of_grants fun _ => rfl) fun client ch hf => ?_
    obtain ⟨-, held, hheld, -, p, d, l, hk⟩ := hf
    obtain rfl := Option.some.inj hheld
    simp [heldAdjust] at hk
  | planReady planning =>
    exact h.of_below (.of_grants fun _ => rfl) fun client ch ⟨_, hk⟩ => ⟨inFlight_of_planning planning, hk⟩
  | @apply request plan due held =>
    refine movedAndMade_holders h (inFlight_of_applyPending due) held plan ?_ fun j => ?_
    · rw [dropPlan_ctl, withCtl_ctl, appliedController_eq, withoutRepack_inFlight]
    · rw [dropPlan_ctl, withCtl_ctl, applied_grantAt]
  | tierDrop =>
    have shed := shedAll_eachBelow s.config.profiles
    rename_i tier _ _
    refine keep ((EachBelow.of_grants fun j => grantAt_of_table (loadTier_table _ _ _) j).trans
      (shed (s.ctl.loadTier s.config.tiers tier))) ?_ ?_
    · obtain ⟨-, -, -, hr, -⟩ := shedAll_ceilings s.config.profiles (s.ctl.loadTier s.config.tiers tier)
      simp only [withCtl_ctl, Controller.inFlight, hr, loadTier_repack]
    · obtain ⟨-, -, -, -, hh, -⟩ := shedAll_ceilings s.config.profiles (s.ctl.loadTier s.config.tiers tier)
      simp only [withCtl_ctl, hh, loadTier_held]
  | tierLoad =>
    exact keep (.of_grants fun j => grantAt_of_table (loadTier_table _ _ _) j)
      (by simp only [withCtl_ctl, Controller.inFlight, loadTier_repack]) (by simp only [withCtl_ctl, loadTier_held])
  | configure => exact h
  | setTiers => exact keep (.of_grants fun _ => rfl) rfl rfl
  | start => exact h
  | stop =>
    exact keep (fun j g' hg' => by rw [freeAll_grantAt] at hg'; cases hg') (freeAll_inFlight _) (by simp only [Controller.freeAll])
  | clear =>
    exact keep (fun j g' hg' => by rw [clearAll_grantAt] at hg'; cases hg') (clearAll_inFlight _)
      (by simp only [Controller.clearAll, loadTier_held, Controller.freeAll])

theorem reset_holders : Holders State.reset.ctl := by
  refine ⟨⟨fun i j gi gj hi => ?_, fun client ch hf => absurd hf (not_grantHeldFor_of_idle reset_inFlight _ _)⟩,
    fun i j gi gj hi => ?_, fun client ch hf => absurd hf (not_grantHeldFor_of_idle reset_inFlight _ _)⟩
  all_goals rw [reset_grantAt] at hi; cases hi

/-- Settles O5: every move keeps both laws. -/
theorem holdersKept : Obligations.HoldersKept := fun _ _ hs h =>
  step_keeps (P := fun s => Holders s.ctl) (fun _ _ h => h) (fun _ => reset_holders)
    (fun _ _ _ _ h => by simpa only [markTaken_ctl] using h) (fun _ _ _ m h => m.holders h) hs h

end Sys2Proof.Proofs
end

section
/-! SUPPORT. Where the sheds of a tier drop end, and the law of R143 under every move. -/

namespace Sys2Proof.Proofs

open Sys2Proof Sys2Proof.Machine Sys2Proof.Safety Sys2Proof.Laws

/-! ## The admission list under the moves of a grant -/

section
variable (c : Controller) (profiles : Vector Profile 16)

theorem detach_admission_subset (i : SlotIx) : (c.detach profiles i).admission ⊆ c.admission := by
  cases hg : c.grantAt i with
  | none => rw [detach_free hg]; exact List.Subset.refl _
  | some g =>
    rcases standing_cases g with ⟨start, r, hs⟩ | hw | ⟨reason, hs⟩
    · have ha : (c.detach profiles i).admission = c.admission.erase i := by simp only [detach_active hg hs]
      rw [ha]; exact List.erase_subset
    · have ha : (c.detach profiles i).admission = c.admission := by simp only [detach_waits hg hw]
      rw [ha]; exact List.Subset.refl _
    · rw [detach_closed hg (isClosed_of_closed hs)]; exact List.Subset.refl _

theorem free_admission (i : SlotIx) : (c.free profiles i).admission = (c.detach profiles i).admission := by
  simp only [Controller.free, emptySlot_admission]
theorem retire_admission_subset (i : SlotIx) (r : CloseReason) : (c.retire profiles i r).admission ⊆ c.admission := by
  unfold Controller.retire
  split
  · exact List.Subset.refl _
  · rw [putGrant_admission]; exact detach_admission_subset c profiles i
theorem shed_admission_subset (i : SlotIx) : (c.shed profiles i).admission ⊆ c.admission := by
  unfold Controller.shed
  split
  · exact List.Subset.refl _
  · rw [enterWaiting_admission, putGrant_admission]; exact detach_admission_subset c profiles i
theorem preempt_admission_subset (i : SlotIx) : (c.preempt profiles i).admission ⊆ c.admission := by
  rw [(preempt_account c profiles i).2.2]; exact detach_admission_subset c profiles i
theorem createWaiting_admission (a : GrantArgs) (who : Client) (i : SlotIx) (state : GrantState) :
    (c.createWaiting profiles a who i state).admission = c.admission := by
  simp only [Controller.createWaiting, enterWaiting_admission, putGrant_admission]

/-- At TIER3 a visit admits nothing (R77). -/
theorem visit_admission_of_tier3 {c : Controller} (h : c.tierInForce = 3) (i : SlotIx) :
    (c.visit profiles i).admission = c.admission := by
  rcases visit_cases profiles c i with e | ⟨g, -, -, ⟨s, hs, -⟩ | ⟨-, e⟩⟩
  · rw [e]
  · simp [Controller.placeUnlessTier3, Controller.atTier3, h] at hs
  · rw [e, Controller.promote, putGrant_admission]

theorem place_not_tier3 {c : Controller} {profiles : Vector Profile 16} {ch : Channel} {f : Nat} {s : Segment}
    (h : c.placeUnlessTier3 profiles ch f = some s) : c.tierInForce ≠ 3 := by
  intro e
  simp [Controller.placeUnlessTier3, Controller.atTier3, e] at h

end

/-! ## Where the sheds end (R144, R146) -/

/-- Without a choice no ACTIVE grant of the admission list meets the test. -/
theorem shedChoice_none {c : Controller} {test : Grant → Bool} (h : c.shedChoice test = none) {i : SlotIx} {g : Grant}
    (hi : i ∈ c.admission) (hg : c.grantAt i = some g) (ha : g.isActive = true) : test g = false := by
  have stays : ∀ (l : List SlotIx) (b : SlotIx), l.foldl (fun best i =>
      match best with
      | none => some i
      | some b => if c.priorityAt i ≤ c.priorityAt b then some i else some b) (some b) ≠ none := by
    intro l
    induction l with
    | nil => exact fun b => by simp
    | cons j l ih =>
      intro b
      rw [List.foldl_cons]
      dsimp only
      split
      · exact ih j
      · exact ih b
  rw [← Bool.not_eq_true]
  intro ht
  have hm : i ∈ c.admission.filter fun i => (c.grantAt i).any fun g => g.isActive && test g :=
    List.mem_filter.2 ⟨hi, by simp [hg, ha, ht]⟩
  unfold Controller.shedChoice at h
  cases hl : c.admission.filter (fun i => (c.grantAt i).any fun g => g.isActive && test g) with
  | nil => rw [hl] at hm; cases hm
  | cons j l => rw [hl] at h; exact stays l j h

/-- Shedding an ACTIVE grant takes it out of the admission list. -/
theorem shed_admission {c : Controller} (profiles : Vector Profile 16) {i : SlotIx}
    (ha : (c.grantAt i).any Grant.isActive = true) : (c.shed profiles i).admission = c.admission.erase i := by
  cases hg : c.grantAt i with
  | none => simp [hg] at ha
  | some g =>
    obtain ⟨start, r, hs⟩ := isActive_iff.1 (by simpa [hg] using ha)
    simp only [Controller.shed, hg, enterWaiting_admission, putGrant_admission, detach_active hg hs]

/-- A drop sheds until there is no grant to choose. -/
theorem shedAll_nextShed (c : Controller) (profiles : Vector Profile 16) : (c.shedAll profiles).nextShed = none := by
  have ends : ∀ (n : Nat) (d : Controller), d.admission.length ≤ n → (shedLoop profiles n d).nextShed = none := by
    intro n
    induction n with
    | zero =>
      intro d hd
      cases hn : d.nextShed with
      | none => exact hn
      | some i => have := List.length_pos_of_mem (nextShed_mem hn).1; omega
    | succ n ih =>
      intro d hd
      cases hn : d.nextShed with
      | none => simp only [shedLoop, hn]
      | some i =>
        simp only [shedLoop, hn]
        refine ih _ ?_
        have := List.length_pos_of_mem (nextShed_mem hn).1
        rw [shed_admission profiles (nextShed_active hn), List.length_erase_of_mem (nextShed_mem hn).1]
        omega
  exact ends _ c le_rfl

/-- At TIER3 a drop leaves no ACTIVE grant (R146). -/
theorem shedAll_of_tier3 {c : Controller} (h : ListsExact c) (ht : c.tierInForce = 3) (profiles : Vector Profile 16)
    (i : SlotIx) : ((c.shedAll profiles).grantAt i).any Grant.isActive = false := by
  have ends := shedAll_nextShed c profiles
  have tier : (c.shedAll profiles).tierInForce = 3 := (shedAll_ceilings profiles c).1.trans ht
  have none : (c.shedAll profiles).shedChoice (fun _ => true) = none := by
    simpa only [Controller.nextShed, Controller.atTier3, tier, beq_self_eq_true, if_true] using ends
  by_contra ha
  rw [Bool.not_eq_false] at ha
  obtain ⟨-, -, -, inAdmission, -⟩ := shedAll_listsExact h profiles
  cases hg : (c.shedAll profiles).grantAt i with
  | none => simp [hg] at ha
  | some g => simpa using shedChoice_none none ((inAdmission i).2 ha) hg (by simpa [hg] using ha)

/-! ## R143 under every move -/

/-- The law of R143 with what every step needs to keep it. -/
def TierThree (s : State) : Prop := ListsExact s.ctl ∧ ConfigEmpty s ∧ Tier3Empty s

/-- Where no grant becomes ACTIVE and tier and repack stay, the law stays. -/
theorem Tier3Empty.of_admission {s t : State} (h : Tier3Empty s) (hs : ListsExact s.ctl) (ht : ListsExact t.ctl)
    (mode : t.config.mode = .run → s.config.mode = .run) (tier : t.ctl.tierInForce = s.ctl.tierInForce)
    (repack : s.ctl.inFlight = false → t.ctl.inFlight = false)
    (sub : s.ctl.tierInForce = 3 → t.ctl.admission ⊆ s.ctl.admission) : Tier3Empty t := by
  intro run three
  rw [tier] at three
  obtain ⟨none, idle⟩ := h (mode run) three
  refine ⟨fun i => ?_, repack idle⟩
  by_contra ha
  rw [Bool.not_eq_false] at ha
  have hi := sub three ((ht.2.2.2.1 i).2 ha)
  rw [hs.2.2.2.1, none i] at hi
  cases hi

theorem tier3Empty_of_not {s : State} (h : s.config.mode = .run → s.ctl.tierInForce ≠ 3) : Tier3Empty s :=
  fun run three => absurd three (h run)

theorem repackAllowed_not_tier3 {s : State} {current added : Nat} (h : s.repackAllowed current added = true) :
    s.ctl.tierInForce ≠ 3 := by
  simp only [State.repackAllowed, Bool.and_eq_true, Bool.not_eq_true', Controller.atTier3, beq_eq_false_iff_ne] at h
  exact h.1.1.1.2

theorem Cleared.admission_subset {s : State} {ch : Channel} {c : Controller} (h : Cleared s ch c) :
    c.admission ⊆ s.ctl.admission := by
  cases h with
  | free => exact List.Subset.refl _
  | preempted => exact preempt_admission_subset _ _ _
theorem Cleared.tierInForce {s : State} {ch : Channel} {c : Controller} (h : Cleared s ch c) :
    c.tierInForce = s.ctl.tierInForce := by
  cases h with
  | free => rfl
  | preempted => exact preempt_tierInForce _ _ _

theorem Move.tier3Empty {frees : Prop} {s t : State} (m : Move frees s t) (lists : ListsExact s.ctl)
    (empty : ConfigEmpty s) (h : Tier3Empty s) : Tier3Empty t := by
  have after := m.listsExact lists
  have keep := fun mode tier repack sub => Tier3Empty.of_admission (t := t) h lists after mode tier repack sub
  cases m with
  | quiet config ctl =>
    exact keep (fun run => by rwa [config] at run) (same_tierInForce ctl) (by rw [same_inFlight ctl]; exact id)
      fun _ => by rw [same_admission ctl]; exact List.Subset.refl _
  | createActive allowed cleared fit =>
    refine tier3Empty_of_not fun _ => ?_
    simp only [withCtl_ctl, Controller.createActive, activate_tierInForce]
    exact place_not_tier3 fit
  | createDeferred allowed cleared =>
    refine keep id ?_ ?_ fun _ => ?_
    · simp only [withCtl_ctl, Controller.createWaiting, enterWaiting_tierInForce, putGrant_tierInForce, cleared.tierInForce]
    · have same := cleared.inFlight
      simp only [Controller.inFlight] at same
      simp only [withCtl_ctl, Controller.inFlight, Controller.createWaiting, enterWaiting_repack, putGrant_repack, same]
      exact id
    · rw [withCtl_ctl, createWaiting_admission]; exact cleared.admission_subset
  | createQueued allowed =>
    refine keep id ?_ ?_ fun _ => ?_
    · simp only [withCtl_ctl, Controller.createWaiting, enterWaiting_tierInForce, putGrant_tierInForce]
    · simp only [withCtl_ctl, Controller.inFlight, Controller.createWaiting, enterWaiting_repack, putGrant_repack]; exact id
    · rw [withCtl_ctl, createWaiting_admission]; exact List.Subset.refl _
  | rewrite =>
    exact keep id (by simp only [withCtl_ctl, putGrant_tierInForce])
      (by simp only [withCtl_ctl, Controller.inFlight, putGrant_repack]; exact id)
      fun _ => by simp only [withCtl_ctl, putGrant_admission]; exact List.Subset.refl _
  | shrink =>
    exact keep id (by simp only [withCtl_ctl, resize_tierInForce])
      (by simp only [withCtl_ctl, Controller.inFlight, resize_repack]; exact id)
      fun _ => by simp only [withCtl_ctl, (resize_lists _ _ _ _).2]; exact List.Subset.refl _
  | grow =>
    exact keep id (by simp only [withCtl_ctl, resize_tierInForce])
      (by simp only [withCtl_ctl, Controller.inFlight, resize_repack]; exact id)
      fun _ => by simp only [withCtl_ctl, (resize_lists _ _ _ _).2]; exact List.Subset.refl _
  | stepRamps =>
    exact keep id (by simp only [withCtl_ctl, Controller.stepRamps])
      (by simp only [withCtl_ctl, Controller.inFlight, Controller.stepRamps]; exact id)
      fun _ => by simp only [withCtl_ctl, Controller.stepRamps]; exact List.Subset.refl _
  | free _ i =>
    exact keep id (by simp only [withCtl_ctl, free_tierInForce])
      (by simp only [withCtl_ctl, Controller.inFlight, free_repack]; exact id)
      fun _ => by rw [withCtl_ctl, free_admission]; exact detach_admission_subset _ _ _
  | retire i reason =>
    exact keep id (by simp only [withCtl_ctl, retire_tierInForce])
      (by simp only [withCtl_ctl, Controller.inFlight, retire_repack]; exact id)
      fun _ => by rw [withCtl_ctl]; exact retire_admission_subset _ _ _ _
  | visit i =>
    obtain ⟨tier, -, -, repack, -⟩ := visit_ceilings s.config.profiles s.ctl i
    exact keep id (by rw [withCtl_ctl, tier]) (by simp only [withCtl_ctl, Controller.inFlight, repack]; exact id)
      fun three => by rw [withCtl_ctl, visit_admission_of_tier3 _ three]; exact List.Subset.refl _
  | endRepack => exact keep id rfl (fun _ => rfl) fun _ => List.Subset.refl _
  | startGrant _ _ may =>
    obtain ⟨_, may⟩ := may
    have tier := repackAllowed_not_tier3 may
    exact tier3Empty_of_not fun _ => tier
  | startAdjust _ _ _ _ _ may =>
    obtain ⟨_, may⟩ := may
    have tier := repackAllowed_not_tier3 may
    exact tier3Empty_of_not fun _ => tier
  | planReady planning =>
    refine tier3Empty_of_not fun run three => ?_
    have idle := (h run three).2
    rw [inFlight_of_planning planning] at idle; cases idle
  | apply due =>
    have tier := fun held plan => congrArg Controller.tierInForce (appliedController_eq s.ctl s.config.profiles held plan)
    refine tier3Empty_of_not fun run three => ?_
    have idle := (h run ?_).2
    · rw [inFlight_of_applyPending due] at idle; cases idle
    · rw [dropPlan_ctl, withCtl_ctl, tier, withoutRepack_tierInForce, rebuild_tierInForce, movedAndMade_tierInForce] at three
      exact three
  | tierDrop running idle =>
    rename_i tier
    have loaded : ListsExact (s.ctl.loadTier s.config.tiers tier) := listsExact_of_grants lists (loadTier_waiting _ _ _)
      (loadTier_admission _ _ _) fun j => grantAt_of_table (loadTier_table _ _ _) j
    obtain ⟨ht, -, -, hr, -⟩ := shedAll_ceilings s.config.profiles (s.ctl.loadTier s.config.tiers tier)
    refine fun _ three => ⟨fun i => shedAll_of_tier3 loaded (ht.symm.trans three) _ i, ?_⟩
    simpa only [withCtl_ctl, Controller.inFlight, hr, loadTier_repack] using idle
  | tierLoad when_ =>
    rename_i tier
    refine tier3Empty_of_not fun run three => ?_
    rcases when_ with config | less
    · rw [withCtl_config, config] at run; cases run
    · rw [show tier = 3 from three] at less
      exact absurd less (Fin.le_last _).not_gt
  | configure _ config => exact tier3Empty_of_not fun run => by rw [config] at run; cases run
  | setTiers config => exact tier3Empty_of_not fun (run : s.config.mode = .run) => by rw [config] at run; cases run
  | start config => exact fun _ _ => ⟨fun i => by rw [(empty config).1 i]; rfl, (empty config).2⟩
  | stop => exact tier3Empty_of_not fun run => by cases run
  | clear => exact tier3Empty_of_not fun run => by cases run

theorem reset_tier3Empty : Tier3Empty State.reset := tier3Empty_of_not fun run => by cases run

/-- Settles O6: every move keeps the law of R143 with its companions. -/
theorem tierThreeKeptEmpty : Obligations.TierThreeKeptEmpty := fun _ _ hs h =>
  step_keeps (P := TierThree) (fun _ _ h => h) (fun _ => ⟨reset_listsExact, reset_configEmpty, reset_tier3Empty⟩)
    (fun _ p r _ ⟨lists, empty, three⟩ => ⟨by simpa only [markTaken_ctl] using lists, markTaken_configEmpty empty p r,
      by simpa only [Tier3Empty, markTaken_config, markTaken_ctl] using three⟩)
    (fun _ _ _ m ⟨lists, empty, three⟩ => ⟨m.listsExact lists, m.configEmpty empty, m.tier3Empty lists empty three⟩) hs h

end Sys2Proof.Proofs
end

section
/-! SUPPORT. Each record and each held request after a move, told once: whence it comes. The ranges of R4 follow. -/

namespace Sys2Proof.Proofs

open Sys2Proof Sys2Proof.Machine Sys2Proof.Safety Sys2Proof.Laws

/-! ## The record of a grant the plan moves (R88 step 2) -/

/-- The record of a planned grant: the adjusted grant takes need, target, rate and notify as held, every other its start alone. -/
def movedRecord (held : HeldRequest) (adjusted : Bool) (g : Grant) (start : Segment) : Grant :=
  match held.kind, adjusted with
  | .adjust _ target, true => adjustedGrant g held target start
  | _, _ => { g with state := .active start g.room }

theorem movedRecord_grant {held : HeldRequest} {ch : Channel} {prio : Priority} {duty lease : Nat}
    (h : held.kind = .grant ch prio duty lease) (adjusted : Bool) (g : Grant) (start : Segment) :
    movedRecord held adjusted g start = { g with state := .active start g.room } := by
  simp only [movedRecord, h]
theorem movedRecord_adjusted {held : HeldRequest} {handle target : Nat} (h : held.kind = .adjust handle target) (g : Grant)
    (start : Segment) : movedRecord held true g start = adjustedGrant g held target start := by
  simp only [movedRecord, h]
theorem movedRecord_other (held : HeldRequest) (g : Grant) (start : Segment) :
    movedRecord held false g start = { g with state := .active start g.room } := by
  unfold movedRecord; split <;> simp_all

theorem movedRecord_cases (held : HeldRequest) (adjusted : Bool) (g : Grant) (start : Segment) :
    movedRecord held adjusted g start = { g with state := .active start g.room } ∨
    (adjusted = true ∧ ∃ handle target, held.kind = .adjust handle target ∧
      movedRecord held adjusted g start = adjustedGrant g held target start) := by
  cases adjusted with
  | false => exact .inl (movedRecord_other held g start)
  | true =>
    cases hk : held.kind with
    | grant ch prio duty lease => exact .inl (movedRecord_grant hk _ _ _)
    | adjust handle target => exact .inr ⟨rfl, handle, target, rfl, movedRecord_adjusted hk _ _⟩

theorem movedRecord_active (held : HeldRequest) (adjusted : Bool) (g : Grant) (start : Segment) :
    ∃ r, (movedRecord held adjusted g start).state = .active start r := by
  rcases movedRecord_cases held adjusted g start with e | ⟨-, handle, target, -, e⟩ <;> rw [e]
  · exact ⟨_, rfl⟩
  · exact ⟨_, rfl⟩

/-- A second move takes the place of the first. -/
theorem movedRecord_again (held : HeldRequest) (adjusted : Bool) (g : Grant) (start start' : Segment) :
    movedRecord held adjusted (movedRecord held adjusted g start) start' = movedRecord held adjusted g start' := by
  cases adjusted with
  | false => simp only [movedRecord_other]; rfl
  | true =>
    cases hk : held.kind with
    | grant ch prio duty lease => simp only [movedRecord_grant hk]; rfl
    | adjust handle target => simp only [movedRecord_adjusted hk]; rfl

theorem room_of_state {g : Grant} {start : Segment} {r : Nat} (h : g.state = .active start r) : g.room = r := by
  simp only [Grant.room, h]

/-- One planned move in terms of the moved record. -/
theorem moveOne_record (held : HeldRequest) (c : Controller) (q : Proposal) :
    moveOne held c q = c ∨ ∃ i g start r, q.entry.slot = some i ∧ c.grantAt i = some g ∧ g.state = .active start r ∧
      moveOne held c q = c.putGrant i (movedRecord held (c.adjusting i) g q.start) := by
  rcases moveOne_cases held c q with hm | ⟨i, g, start, r, hi, hg, hs, ⟨hm, hadj⟩ | ⟨hadj, handle, target, hk, hm⟩⟩
  · exact .inl hm
  · refine .inr ⟨i, g, start, r, hi, hg, hs, ?_⟩
    rw [hm, ← room_of_state hs]
    rcases movedRecord_cases held (c.adjusting i) g q.start with e | ⟨ha, handle, target, hk, -⟩
    · rw [e]
    · rw [hadj ⟨handle, target, hk⟩] at ha; cases ha
  · exact .inr ⟨i, g, start, r, hi, hg, hs, by rw [hm, hadj, movedRecord_adjusted hk]⟩

/-- A planned move changes no handle, so the adjusted grant stays the adjusted grant. -/
theorem moveOne_adjusting (held : HeldRequest) (c : Controller) (q : Proposal) (j : SlotIx) :
    (moveOne held c q).adjusting j = c.adjusting j := by
  rcases moveOne_record held c q with hm | ⟨i, g, start, r, -, hg, -, hm⟩ <;> rw [hm]
  exact putGrant_adjusting hg _ j

theorem moved_adjusting (held : HeldRequest) (c : Controller) (plan : List Proposal) (j : SlotIx) :
    (plan.foldl (moveOne held) c).adjusting j = c.adjusting j :=
  moved_induct (motive := fun d => d.adjusting j = c.adjusting j) rfl fun d q _ hd =>
    (moveOne_adjusting held d q j).trans hd

/-- After the plan's moves a slot holds what it held, or the record of an ACTIVE grant moved to the start of a proposal that names
it. -/
theorem moved_record (held : HeldRequest) (c : Controller) (plan : List Proposal) (i : SlotIx) {g' : Grant}
    (h : (plan.foldl (moveOne held) c).grantAt i = some g') : ∃ g, c.grantAt i = some g ∧
      (g' = g ∨ ∃ q start r, q ∈ plan ∧ q.entry.slot = some i ∧ g.state = .active start r ∧
        g' = movedRecord held (c.adjusting i) g q.start) := by
  refine moved_induct (c := c) (held := held) (plan := plan) (motive := fun d => d.adjusting i = c.adjusting i ∧
    ∀ g', d.grantAt i = some g' → ∃ g, c.grantAt i = some g ∧
      (g' = g ∨ ∃ q start r, q ∈ plan ∧ q.entry.slot = some i ∧ g.state = .active start r ∧
        g' = movedRecord held (c.adjusting i) g q.start)) ⟨rfl, fun g hg => ⟨g, hg, .inl rfl⟩⟩ ?_ |>.2 g' h
  rintro d q hq ⟨hadj, hd⟩
  refine ⟨(moveOne_adjusting held d q i).trans hadj, fun x hx => ?_⟩
  rcases moveOne_record held d q with hm | ⟨j, y, start, r, hj, hy, hs, hm⟩ <;> rw [hm] at hx
  · exact hd x hx
  · by_cases e : i = j
    · subst e
      rw [putGrant_grantAt, hadj] at hx; cases hx
      obtain ⟨g, hg, rfl | ⟨q', start', r', hq', hi', hs', rfl⟩⟩ := hd y hy
      · exact ⟨y, hg, .inr ⟨q, start, r, hq, hj, hs, rfl⟩⟩
      · exact ⟨g, hg, .inr ⟨q, start', r', hq, hj, hs', movedRecord_again _ _ _ _ _⟩⟩
    · rw [putGrant_grantAt_of_ne _ _ e] at hx; exact hd x hx

/-! ## What a creation leaves of the repack -/

theorem Cleared.repack {s : State} {ch : Channel} {c : Controller} (h : Cleared s ch c) : c.repack = s.ctl.repack := by
  cases h with
  | free => rfl
  | preempted => exact preempt_repack _ _ _
theorem Cleared.held {s : State} {ch : Channel} {c : Controller} (h : Cleared s ch c) : c.held = s.ctl.held := by
  cases h with
  | free => rfl
  | preempted => exact preempt_held _ _ _
theorem createWaiting_repack (c : Controller) (profiles : Vector Profile 16) (a : GrantArgs) (who : Client) (i : SlotIx)
    (state : GrantState) : (c.createWaiting profiles a who i state).repack = c.repack := by
  rw [Controller.createWaiting, enterWaiting_repack, putGrant_repack]
theorem createWaiting_held (c : Controller) (profiles : Vector Profile 16) (a : GrantArgs) (who : Client) (i : SlotIx)
    (state : GrantState) : (c.createWaiting profiles a who i state).held = c.held := by
  rw [Controller.createWaiting, enterWaiting_held, putGrant_held]

/-! ## Whence a record comes -/

/-- The record may stand in the slot after a move from this state, where a repack is in flight after it or not. -/
inductive Stands (s : State) (after : Bool) (i : SlotIx) : Grant → Prop
  | kept {g : Grant} (here : s.ctl.grantAt i = some g) : Stands s after i g
  | createdActive {a : GrantArgs} {who : Client} {c : Controller} {start : Segment} (allowed : GrantAllowed s a who i)
      (cleared : Cleared s a.channel c)
      (fit : c.placeUnlessTier3 s.config.profiles a.channel (footprint a.duty) = some start) (idle : after = false) :
      Stands s after i (grantRecord a who s.config.profiles[a.channel] (.active start (footprint a.duty)))
  | createdWaiting {a : GrantArgs} {who : Client} {state : GrantState} (allowed : GrantAllowed s a who i)
      (waits : state = .deferred ∨ state = .queued) (idle : after = false) :
      Stands s after i (grantRecord a who s.config.profiles[a.channel] state)
  | rewritten {g g' : Grant} (here : s.ctl.grantAt i = some g) (same : SameStanding g g')
      (target : TargetAllowed s.config.profiles g g') : Stands s after i g'
  | inactive {g : Grant} {state : GrantState} {notices : Notices} (here : s.ctl.grantAt i = some g)
      (not : ∀ start r, state ≠ .active start r) : Stands s after i { g with state := state, notices := notices }
  | admitted {g : Grant} {start : Segment} {notices : Notices} (here : s.ctl.grantAt i = some g)
      (fit : s.ctl.placeUnlessTier3 s.config.profiles g.channel g.neededFootprint = some start)
      (idle : after = false) :
      Stands s after i { g with state := .active start g.neededFootprint, notices := notices }
  | shrunk {g : Grant} {start : Segment} {r f : Nat} (here : s.ctl.grantAt i = some g) (active : g.state = .active start r)
      (le : f ≤ r) (present : footprint g.presentDuty ≤ f) (target : footprint g.targetDuty ≤ f) :
      Stands s after i { g with state := .active start f }
  | grown {g : Grant} {start : Segment} {r f : Nat} (here : s.ctl.grantAt i = some g) (active : g.state = .active start r)
      (le : r ≤ f) (bound : f ≤ 64) (idle : after = false) :
      Stands s after i { g with state := .active start f }
  | stepped {g : Grant} (here : s.ctl.grantAt i = some g) : Stands s after i g.stepped
  | moved {g : Grant} {h : HeldRequest} {plan : List Proposal} {q : Proposal} {start : Segment} {r : Nat}
      (due : s.ctl.repack = .applyPending) (held : s.ctl.held = some h) (planned : s.planner.plan = some plan)
      (here : s.ctl.grantAt i = some g) (active : g.state = .active start r) (mem : q ∈ plan)
      (slot : q.entry.slot = some i) (idle : after = false) :
      Stands s after i (movedRecord h (s.ctl.adjusting i) g q.start)
  | made {g : Grant} {h : HeldRequest} {plan : List Proposal} (due : s.ctl.repack = .applyPending)
      (held : s.ctl.held = some h) (planned : s.planner.plan = some plan)
      (created : createdBy s.ctl h plan = some (i, g))
      (idle : after = false) : Stands s after i g

section
variable {s : State} {after : Bool} {i j : SlotIx}

/-- A slot in which a move of one grant leaves the others alone. -/
theorem Stands.of_one {d : Controller} {g' : Grant} (hg : d.grantAt j = some g')
    (others : j ≠ i → d.grantAt j = s.ctl.grantAt j) (here : j = i → Stands s after j g') : Stands s after j g' := by
  by_cases e : j = i
  · exact here e
  · exact .kept ((others e).symm.trans hg)

theorem retire_stands {g' : Grant} {reason : CloseReason}
    (hg' : (s.ctl.retire s.config.profiles i reason).grantAt j = some g') : Stands s after j g' := by
  refine .of_one (i := i) hg' (fun e => retire_grantAt_of_ne _ _ _ e) ?_
  rintro rfl
  cases hg : s.ctl.grantAt j with
  | none => rw [retire_of_free _ hg, hg] at hg'; cases hg'
  | some g =>
    rw [retire_grantAt _ hg] at hg'; cases hg'
    exact .inactive hg fun _ _ e => by cases e

theorem preempt_stands {g' : Grant} (hg' : (s.ctl.preempt s.config.profiles i).grantAt j = some g') : Stands s after j g' := by
  refine .of_one (i := i) hg' (fun e => preempt_grantAt_of_ne _ _ e) ?_
  rintro rfl
  cases hg : s.ctl.grantAt j with
  | none => simp only [Controller.preempt, hg] at hg'; cases hg'
  | some g =>
    rw [preempt_grantAt _ hg] at hg'; cases hg'
    exact .inactive hg fun _ _ e => by cases e

theorem Cleared.stands {ch : Channel} {c : Controller} {g' : Grant} (h : Cleared s ch c) (hg' : c.grantAt j = some g') :
    Stands s after j g' := by
  cases h with
  | free => exact .kept hg'
  | preempted => exact preempt_stands hg'

theorem visit_stands {g' : Grant} (idle : after = false)
    (hg' : (s.ctl.visit s.config.profiles i).grantAt j = some g') : Stands s after j g' := by
  rcases visit_cases s.config.profiles s.ctl i with e | ⟨g, hg, -, ⟨start, fit, e⟩ | ⟨-, e⟩⟩ <;> rw [e] at hg'
  · exact .kept hg'
  · refine .of_one (i := i) hg' (fun e => admitGrant_grantAt_of_ne _ _ _ _ e) ?_
    rintro rfl
    rw [admitGrant_grantAt] at hg'; cases hg'
    exact .admitted hg fit idle
  · refine .of_one (i := i) hg' (fun e => promote_grantAt_of_ne _ _ e) ?_
    rintro rfl
    rw [promote_grantAt] at hg'; cases hg'
    exact .inactive (notices := g.notices) hg fun _ _ e => by cases e

/-- The sheds of a drop leave a record, or make it DEFERRED. -/
theorem shedAll_record (profiles : Vector Profile 16) {c : Controller} {g' : Grant}
    (hg' : (c.shedAll profiles).grantAt j = some g') : ∃ g, c.grantAt j = some g ∧
      (g' = g ∨ ∃ notices, g' = { g with state := .deferred, notices := notices }) := by
  refine shedAll_induct (profiles := profiles) (c := c) (motive := fun d => ∀ x, d.grantAt j = some x →
    ∃ g, c.grantAt j = some g ∧ (x = g ∨ ∃ notices, x = { g with state := .deferred, notices := notices }))
    (fun g hg => ⟨g, hg, .inl rfl⟩) (fun d i _ hd x hx => ?_) g' hg'
  by_cases e : j = i
  · subst e
    cases hy : d.grantAt j with
    | none => rw [shed_of_free _ hy, hy] at hx; cases hx
    | some y =>
      rw [shed_grantAt _ hy] at hx; cases hx
      obtain ⟨g, hg, rfl | ⟨notices, rfl⟩⟩ := hd y hy
      · exact ⟨y, hg, .inr ⟨_, rfl⟩⟩
      · exact ⟨g, hg, .inr ⟨_, rfl⟩⟩
  · exact hd x ((shed_grantAt_of_ne _ _ e).symm.trans hx)

theorem applied_stands {h : HeldRequest} {plan : List Proposal} {g' : Grant} (idle : after = false)
    (due : s.ctl.repack = .applyPending)
    (held : s.ctl.held = some h) (planned : s.planner.plan = some plan)
    (hg' : (movedAndMade s.ctl h plan).grantAt j = some g') : Stands s after j g' := by
  have moved : ∀ x, (plan.foldl (moveOne h) s.ctl).grantAt j = some x → Stands s after j x := by
    intro x hx
    obtain ⟨g, hg, rfl | ⟨q, start, r, hq, hi, hs, rfl⟩⟩ := moved_record h s.ctl plan j hx
    · exact .kept hg
    · exact .moved due held planned hg hs hq hi idle
  unfold movedAndMade at hg'
  cases hc : createdBy s.ctl h plan with
  | none => simp only [hc] at hg'; exact moved _ hg'
  | some made =>
    obtain ⟨i, g⟩ := made
    simp only [hc] at hg'
    by_cases e : j = i
    · subst e
      have : some g = some g' := (putGrant_grantAt _ j g).symm.trans hg'
      cases this
      exact .made due held planned hc idle
    · exact moved _ ((putGrant_grantAt_of_ne _ g e).symm.trans hg')

end

/-- Every record after a move comes from the state before it. -/
theorem Move.stands {frees : Prop} {s t : State} (m : Move frees s t) {j : SlotIx} {g' : Grant}
    (hg' : t.ctl.grantAt j = some g') : Stands s t.ctl.inFlight j g' := by
  cases m with
  | quiet _ ctl => exact .kept ((same_grantAt ctl j).symm.trans hg')
  | @createActive a who i c start allowed cleared fit =>
    by_cases e : j = i
    · subst e
      have same := (createActive_grantAt c s.config.profiles a who j start).symm.trans hg'
      cases same
      refine .createdActive allowed cleared fit ?_
      have idle := allowed.idle
      simpa only [Controller.inFlight, withCtl_ctl, Controller.createActive, activate_repack, cleared.repack] using idle
    · exact cleared.stands ((createActive_grantAt_of_ne _ _ _ _ _ e).symm.trans hg')
  | @createDeferred a who i c allowed cleared =>
    by_cases e : j = i
    · subst e
      have same := (createWaiting_grantAt c s.config.profiles a who j .deferred).symm.trans hg'
      cases same
      refine .createdWaiting allowed (.inl rfl) ?_
      have idle := allowed.idle
      simpa only [Controller.inFlight, withCtl_ctl, createWaiting_repack, cleared.repack] using idle
    · exact cleared.stands ((createWaiting_grantAt_of_ne _ _ _ _ _ e).symm.trans hg')
  | @createQueued a who i allowed =>
    refine .of_one (i := i) hg' (fun e => createWaiting_grantAt_of_ne _ _ _ _ _ e) ?_
    rintro rfl
    have same := (createWaiting_grantAt s.ctl s.config.profiles a who j .queued).symm.trans hg'
    cases same
    refine .createdWaiting allowed (.inr rfl) ?_
    have idle := allowed.idle
    simpa only [Controller.inFlight, withCtl_ctl, createWaiting_repack] using idle
  | @rewrite i g x here same target =>
    refine .of_one (i := i) hg' (fun e => putGrant_grantAt_of_ne _ _ e) ?_
    rintro rfl
    have eq := (putGrant_grantAt s.ctl j x).symm.trans hg'
    cases eq
    exact .rewritten here same target
  | @shrink i g start r f here active le present target =>
    refine .of_one (i := i) hg' (fun e => resize_grantAt_of_ne _ _ _ e) ?_
    rintro rfl
    have eq := (resize_grantAt s.config.profiles here active f).symm.trans hg'
    cases eq
    exact .shrunk here active le present target
  | @grow i g start r f here active le bound idle =>
    refine .of_one (i := i) hg' (fun e => resize_grantAt_of_ne _ _ _ e) ?_
    rintro rfl
    have eq := (resize_grantAt s.config.profiles here active f).symm.trans hg'
    cases eq
    exact .grown here active le bound (by simpa only [Controller.inFlight, withCtl_ctl, resize_repack] using idle)
  | stepRamps =>
    rw [withCtl_ctl, stepRamps_grantAt, Option.map_eq_some_iff] at hg'
    obtain ⟨g, hg, rfl⟩ := hg'
    exact .stepped hg
  | free _ i =>
    refine .of_one (i := i) hg' (fun e => free_grantAt_of_ne _ _ e) ?_
    rintro rfl
    rw [withCtl_ctl, free_grantAt] at hg'; cases hg'
  | retire i reason => exact retire_stands hg'
  | visit i idle =>
    obtain ⟨-, -, -, hr, -⟩ := visit_ceilings s.config.profiles s.ctl i
    exact visit_stands (by simpa only [Controller.inFlight, withCtl_ctl, hr] using idle) hg'
  | endRepack => exact .kept hg'
  | startGrant => exact .kept hg'
  | startAdjust => exact .kept hg'
  | planReady => exact .kept hg'
  | apply due held planned =>
    rw [dropPlan_ctl, withCtl_ctl, applied_grantAt] at hg'
    refine applied_stands ?_ due held planned hg'
    rw [dropPlan_ctl, withCtl_ctl, appliedController_eq, withoutRepack_inFlight]
  | @tierDrop tier =>
    obtain ⟨g, hg, rfl | ⟨notices, rfl⟩⟩ := shedAll_record s.config.profiles hg'
    · exact .kept ((grantAt_of_table (loadTier_table _ _ _) _).symm.trans hg)
    · exact .inactive ((grantAt_of_table (loadTier_table _ _ _) _).symm.trans hg) fun _ _ e => by cases e
  | tierLoad => exact .kept ((grantAt_of_table (loadTier_table _ _ _) _).symm.trans hg')
  | configure => exact .kept hg'
  | setTiers => exact .kept ((grantAt_of_table (loadTier_table _ _ _) _).symm.trans hg')
  | start => exact .kept hg'
  | stop => have none := (freeAll_grantAt s.ctl j).symm.trans hg'; cases none
  | clear => have none := (clearAll_grantAt s.ctl j).symm.trans hg'; cases none

/-! ## Whence a held request comes -/

theorem still_flying {s t : State} (hf : t.ctl.inFlight = true) (repack : t.ctl.repack = s.ctl.repack)
    (held : t.ctl.held = s.ctl.held) (planner : t.planner = s.planner) :
    s.ctl.inFlight = true ∧ t.ctl.held = s.ctl.held ∧ t.planner = s.planner :=
  ⟨by simpa only [Controller.inFlight, repack] using hf, held, planner⟩

/-- While a repack is in flight after a move, it was in flight before and is the same, or the move has started it. -/
theorem Move.flying {frees : Prop} {s t : State} (m : Move frees s t) (hf : t.ctl.inFlight = true) :
    (s.ctl.inFlight = true ∧ t.ctl.held = s.ctl.held ∧ t.planner = s.planner) ∨
    (∃ a k i, GrantAllowed s a (k : Taken).who i ∧ (∃ added, s.repackAllowed (currentOf s.config.profiles a.channel) added) ∧
      t = s.startRepack (heldGrant a k s.config.profiles[a.channel]) (grantInput s a)) ∨
    ∃ a k i g start r, s.ctl.lookup (a : AdjustArgs).handle = some (i, g) ∧ g.state = .active start r ∧
      r < footprint a.target ∧ a.target ≤ 2048 ∧ a.target ≤ s.config.profiles[g.channel].maxDuty ∧
      (∃ added, s.repackAllowed (currentOf s.config.profiles g.channel) added) ∧
      t = s.startRepack (heldAdjust a (k : Taken) s.config.profiles[g.channel])
        (activeEntries s.ctl s.config.profiles (some (i, footprint a.target))) := by
  cases m with
  | quiet _ ctl planner => exact .inl (still_flying hf (same_repack ctl) (same_held ctl) planner)
  | createActive _ cleared =>
    refine .inl (still_flying hf ?_ ?_ (withCtl_planner _ _))
    · rw [withCtl_ctl, Controller.createActive, activate_repack, cleared.repack]
    · rw [withCtl_ctl, Controller.createActive, activate_held, cleared.held]
  | createDeferred _ cleared =>
    refine .inl (still_flying hf ?_ ?_ (withCtl_planner _ _))
    · rw [withCtl_ctl, createWaiting_repack, cleared.repack]
    · rw [withCtl_ctl, createWaiting_held, cleared.held]
  | createQueued =>
    exact .inl (still_flying hf (by rw [withCtl_ctl, createWaiting_repack]) (by rw [withCtl_ctl, createWaiting_held]) (withCtl_planner _ _))
  | rewrite =>
    exact .inl (still_flying hf (by rw [withCtl_ctl, putGrant_repack]) (by rw [withCtl_ctl, putGrant_held]) (withCtl_planner _ _))
  | shrink => exact .inl (still_flying hf (by rw [withCtl_ctl, resize_repack]) (by rw [withCtl_ctl, resize_held]) (withCtl_planner _ _))
  | grow => exact .inl (still_flying hf (by rw [withCtl_ctl, resize_repack]) (by rw [withCtl_ctl, resize_held]) (withCtl_planner _ _))
  | stepRamps =>
    exact .inl (still_flying hf (by simp only [withCtl_ctl, Controller.stepRamps])
      (by simp only [withCtl_ctl, Controller.stepRamps]) (withCtl_planner _ _))
  | free => exact .inl (still_flying hf (by rw [withCtl_ctl, free_repack]) (by rw [withCtl_ctl, free_held]) (withCtl_planner _ _))
  | retire => exact .inl (still_flying hf (by rw [withCtl_ctl, retire_repack]) (by rw [withCtl_ctl, retire_held]) (withCtl_planner _ _))
  | visit i =>
    obtain ⟨-, -, -, hr, hh, -⟩ := visit_ceilings s.config.profiles s.ctl i
    exact .inl (still_flying hf hr hh (withCtl_planner _ _))
  | endRepack => exact Bool.noConfusion (show false = true from hf)
  | @startGrant a k i allowed _ may => exact .inr (.inl ⟨a, k, i, allowed, may, rfl⟩)
  | @startAdjust a k i g start r named active more duty bound may =>
    exact .inr (.inr ⟨a, k, i, g, start, r, named, active, more, duty, bound, may, rfl⟩)
  | planReady planning => exact .inl ⟨inFlight_of_planning planning, rfl, rfl⟩
  | apply =>
    rw [dropPlan_ctl, withCtl_ctl, appliedController_eq, withoutRepack_inFlight] at hf; cases hf
  | @tierDrop tier =>
    obtain ⟨-, -, -, hr, hh, -⟩ := shedAll_ceilings s.config.profiles (s.ctl.loadTier s.config.tiers tier)
    exact .inl (still_flying hf (hr.trans (loadTier_repack _ _ _)) (hh.trans (loadTier_held _ _ _)) (withCtl_planner _ _))
  | tierLoad => exact .inl (still_flying hf (loadTier_repack _ _ _) (loadTier_held _ _ _) (withCtl_planner _ _))
  | configure => exact .inl ⟨hf, rfl, rfl⟩
  | setTiers => exact .inl ⟨hf, rfl, rfl⟩
  | start => exact .inl ⟨hf, rfl, rfl⟩
  | stop _ idle => rw [freeAll_inFlight, idle] at hf; cases hf
  | clear _ idle => rw [clearAll_inFlight, idle] at hf; cases hf

/-! ## The profiles -/

/-- The profiles change only where there is no grant and no repack. -/
theorem Move.profiles {frees : Prop} {s t : State} (m : Move frees s t) (h : ConfigEmpty s) :
    t.config.profiles = s.config.profiles ∨ ((∀ i, t.ctl.grantAt i = none) ∧ t.ctl.inFlight = false) := by
  cases m with
  | quiet config => exact .inl (by rw [config])
  | configure before => exact .inr (h before)
  | clear _ idle => exact .inr ⟨clearAll_grantAt _, (clearAll_inFlight _).trans idle⟩
  | setTiers => exact .inl rfl
  | _ => exact .inl rfl

end Sys2Proof.Proofs
end

section
/-! SUPPORT. The account of the frame: the ranges of R4, and the sums of R35 and R36, under every move. -/

namespace Sys2Proof.Proofs

open Sys2Proof Sys2Proof.Machine Sys2Proof.Safety Sys2Proof.Laws

/-! ## Ranges (R4) -/

/-- A record within its ranges. -/
def Ranged (g : Grant) : Prop := g.targetDuty ≤ 2048 ∧ g.presentDuty ≤ 2048 ∧ g.room ≤ 64

theorem rampStep_le_max (present target rate : Nat) : rampStep present target rate ≤ max present target := by
  unfold rampStep
  split
  · exact le_max_right _ _
  · split <;> omega

theorem room_of_not_active {g : Grant} (h : ∀ start r, g.state ≠ .active start r) : g.room = 0 := by
  unfold Grant.room
  split
  · rename_i start r hs; exact absurd hs (h start r)
  · rfl

theorem stepped_room (g : Grant) : g.stepped.room = g.room := by simp only [Grant.room, stepped_state]
theorem stepped_target (g : Grant) : g.stepped.targetDuty = g.targetDuty := by unfold Grant.stepped; split <;> rfl
theorem stepped_present_le (g : Grant) : g.stepped.presentDuty ≤ max g.presentDuty g.targetDuty := by
  unfold Grant.stepped
  split
  · exact rampStep_le_max _ _ _
  · exact le_max_left _ _

theorem neededFootprint_le {g : Grant} (h : Ranged g) : g.neededFootprint ≤ 64 :=
  max_le (footprint_le_64 h.2.1) (footprint_le_64 h.1)

theorem Stands.ranged {s : State} {after : Bool} {i : SlotIx} {g' : Grant} (st : Stands s after i g') (h : RangesKept s.ctl) : Ranged g' := by
  have old : ∀ {g}, s.ctl.grantAt i = some g → Ranged g := fun hg => h.1 i _ hg
  cases st with
  | kept here => exact old here
  | createdActive allowed => exact ⟨allowed.duty, Nat.zero_le _, footprint_le_64 allowed.duty⟩
  | createdWaiting allowed waits =>
    exact ⟨allowed.duty, Nat.zero_le _, by rcases waits with rfl | rfl <;> exact Nat.zero_le _⟩
  | rewritten here same target =>
    obtain ⟨ht, hp, hr⟩ := old here
    refine ⟨?_, by rw [same.present]; exact hp, by simpa only [Grant.room, same.state] using hr⟩
    rcases target with e | ⟨le, -⟩
    · rw [e]; exact ht
    · exact le
  | inactive here not =>
    obtain ⟨ht, hp, hr⟩ := old here
    exact ⟨ht, hp, (room_of_not_active not).trans_le (Nat.zero_le _)⟩
  | admitted here => exact ⟨(old here).1, (old here).2.1, neededFootprint_le (old here)⟩
  | shrunk here active le =>
    obtain ⟨ht, hp, hr⟩ := old here
    exact ⟨ht, hp, le.trans (by rwa [room_of_state active] at hr)⟩
  | grown here active le bound => exact ⟨(old here).1, (old here).2.1, bound⟩
  | stepped here =>
    obtain ⟨ht, hp, hr⟩ := old here
    exact ⟨by rwa [stepped_target], (stepped_present_le _).trans (max_le hp ht), by rwa [stepped_room]⟩
  | @moved g held plan q start r due hheld planned here active =>
    obtain ⟨ht, hp, hr⟩ := old here
    rcases movedRecord_cases held (s.ctl.adjusting i) g q.start with e | ⟨-, handle, target, hk, e⟩ <;> rw [e]
    · exact ⟨ht, hp, hr⟩
    · obtain ⟨hn, hd⟩ := h.2 (inFlight_of_applyPending due) held hheld
      rw [hk] at hd
      exact ⟨hd, hp, hn⟩
  | @made _ held plan due hheld planned created =>
    obtain ⟨ch, prio, duty, lease, start, hk, -, -, rfl⟩ := createdBy_some created
    obtain ⟨hn, hd⟩ := h.2 (inFlight_of_applyPending due) held hheld
    rw [hk] at hd
    exact ⟨hd, Nat.zero_le _, hn⟩

theorem Move.rangesKept {frees : Prop} {s t : State} (m : Move frees s t) (h : RangesKept s.ctl) : RangesKept t.ctl := by
  refine ⟨fun i g hg => (m.stands hg).ranged h, fun hf held hheld => ?_⟩
  rcases m.flying hf with ⟨hf', hh, -⟩ | ⟨a, k, i, allowed, -, rfl⟩ | ⟨a, k, i, g, start, r, -, -, -, duty, -, -, rfl⟩
  · exact h.2 hf' held (hh ▸ hheld)
  · cases hheld
    exact ⟨footprint_le_64 allowed.duty, allowed.duty⟩
  · cases hheld
    exact ⟨footprint_le_64 duty, duty⟩

/-! ## Sums over the slots -/

/-- Where one slot's part changes, the sum changes by it. -/
theorem sum_slots_change {f f' : SlotIx → Nat} {i : SlotIx} (h : ∀ j, j ≠ i → f' j = f j) :
    (allSlots.map f').sum + f i = (allSlots.map f).sum + f' i := by
  have rest : ∑ j ∈ Finset.univ.erase i, f' j = ∑ j ∈ Finset.univ.erase i, f j :=
    Finset.sum_congr rfl fun j hj => h j (Finset.ne_of_mem_erase hj)
  unfold allSlots
  rw [← Fin.sum_univ_def, ← Fin.sum_univ_def, ← Finset.add_sum_erase _ f (Finset.mem_univ i),
    ← Finset.add_sum_erase _ f' (Finset.mem_univ i), rest]
  ring

theorem sum_slots_congr {f f' : SlotIx → Nat} (h : ∀ j, f' j = f j) : (allSlots.map f').sum = (allSlots.map f).sum := by
  rw [funext h]

theorem le_sum_slots (f : SlotIx → Nat) (i : SlotIx) : f i ≤ (allSlots.map f).sum := by
  unfold allSlots
  rw [← Fin.sum_univ_def]
  exact Finset.single_le_sum (f := f) (fun _ _ => Nat.zero_le _) (Finset.mem_univ i)

/-- What a record puts into a segment. -/
def loadOf (profiles : Vector Profile 16) (k : Segment) (g : Grant) : Nat :=
  match g.state with
  | .active s r => if covers s r k then currentOf profiles g.channel else 0
  | _ => 0

section
variable {c d : Controller} {profiles : Vector Profile 16} {i : SlotIx}

theorem loadFrom_some {k : Segment} {g : Grant} (h : c.grantAt i = some g) : c.loadFrom profiles k i = loadOf profiles k g := by
  simp only [Controller.loadFrom, h, loadOf] <;> rfl
theorem loadFrom_none {k : Segment} (h : c.grantAt i = none) : c.loadFrom profiles k i = 0 := by
  simp only [Controller.loadFrom, h]
theorem chargeFrom_some {g : Grant} (h : c.grantAt i = some g) :
    c.chargeFrom profiles i = currentOf profiles g.channel * g.room := by
  simp only [Controller.chargeFrom, h]
theorem chargeFrom_none (h : c.grantAt i = none) : c.chargeFrom profiles i = 0 := by
  simp only [Controller.chargeFrom, h]
theorem loadFrom_congr (h : d.grantAt i = c.grantAt i) (k : Segment) : d.loadFrom profiles k i = c.loadFrom profiles k i := by
  simp only [Controller.loadFrom, h]
theorem chargeFrom_congr (h : d.grantAt i = c.grantAt i) : d.chargeFrom profiles i = c.chargeFrom profiles i := by
  simp only [Controller.chargeFrom, h]

theorem loadOf_active {k : Segment} {g : Grant} {start : Segment} {r : Nat} (h : g.state = .active start r) :
    loadOf profiles k g = if covers start r k then currentOf profiles g.channel else 0 := by
  simp only [loadOf, h]
theorem loadOf_inactive {k : Segment} {g : Grant} (h : g.isActive = false) : loadOf profiles k g = 0 := by
  unfold loadOf
  split
  · rename_i hs; rw [isActive_of_active hs] at h; cases h
  · rfl
theorem room_of_inactive {g : Grant} (h : g.isActive = false) : g.room = 0 :=
  room_of_not_active fun start r hs => by rw [isActive_of_active hs] at h; cases h

/-- Load map and total charge are the sums of R35 and R36. -/
def AccountExact (profiles : Vector Profile 16) (c : Controller) : Prop :=
  (∀ k : Segment, c.loadMap[k] = (allSlots.map (c.loadFrom profiles k)).sum) ∧
  c.totalCharge = (allSlots.map (c.chargeFrom profiles)).sum

theorem AccountExact.congr (h : AccountExact profiles c) (hm : d.loadMap = c.loadMap) (ht : d.totalCharge = c.totalCharge)
    (load : ∀ k j, d.loadFrom profiles k j = c.loadFrom profiles k j)
    (charge : ∀ j, d.chargeFrom profiles j = c.chargeFrom profiles j) : AccountExact profiles d := by
  refine ⟨fun k => ?_, ?_⟩
  · rw [hm, h.1 k]; exact (sum_slots_congr (load k)).symm
  · rw [ht, h.2]; exact (sum_slots_congr charge).symm

theorem AccountExact.of_grants (h : AccountExact profiles c) (hm : d.loadMap = c.loadMap)
    (ht : d.totalCharge = c.totalCharge) (hg : ∀ j, d.grantAt j = c.grantAt j) : AccountExact profiles d :=
  h.congr hm ht (fun k j => loadFrom_congr (hg j) k) fun j => chargeFrom_congr (hg j)

/-- Where one slot's grant changes, and map and charge move by the difference, the account stays exact. -/
theorem AccountExact.of_one (h : AccountExact profiles c) (others : ∀ j, j ≠ i → d.grantAt j = c.grantAt j)
    (load : ∀ k : Segment, d.loadMap[k] + c.loadFrom profiles k i = c.loadMap[k] + d.loadFrom profiles k i)
    (charge : d.totalCharge + c.chargeFrom profiles i = c.totalCharge + d.chargeFrom profiles i) :
    AccountExact profiles d := by
  obtain ⟨hl, hc⟩ := h
  refine ⟨fun k => ?_, ?_⟩
  · have e := sum_slots_change (f := c.loadFrom profiles k) (f' := d.loadFrom profiles k) (i := i)
      fun j hj => loadFrom_congr (others j hj) k
    have l := load k
    rw [hl k] at l
    omega
  · have e := sum_slots_change (f := c.chargeFrom profiles) (f' := d.chargeFrom profiles) (i := i)
      fun j hj => chargeFrom_congr (others j hj)
    rw [hc] at charge
    omega

theorem AccountExact.loadFrom_le (h : AccountExact profiles c) (k : Segment) (i : SlotIx) :
    c.loadFrom profiles k i ≤ c.loadMap[k] := by rw [h.1 k]; exact le_sum_slots _ i
theorem AccountExact.chargeFrom_le (h : AccountExact profiles c) (i : SlotIx) :
    c.chargeFrom profiles i ≤ c.totalCharge := by rw [h.2]; exact le_sum_slots _ i

/-- A grant that gives up its room takes its part out of map and charge (R38). -/
theorem detach_account (h : AccountExact profiles c) (i : SlotIx) :
    (∀ k : Segment, (c.detach profiles i).loadMap[k] + c.loadFrom profiles k i = c.loadMap[k]) ∧
    (c.detach profiles i).totalCharge + c.chargeFrom profiles i = c.totalCharge := by
  cases hg : c.grantAt i with
  | none =>
    rw [detach_free hg, chargeFrom_none hg]
    exact ⟨fun k => by rw [loadFrom_none hg, Nat.add_zero], Nat.add_zero _⟩
  | some g =>
    rcases standing_cases g with ⟨start, r, hs⟩ | hw | ⟨reason, hs⟩
    · have hm : (c.detach profiles i).loadMap = (c.leaveRun (currentOf profiles g.channel) start r).loadMap := by
        simp only [detach_active hg hs]
      have ht : (c.detach profiles i).totalCharge = (c.leaveRun (currentOf profiles g.channel) start r).totalCharge := by
        simp only [detach_active hg hs]
      refine ⟨fun k => ?_, ?_⟩
      · have le := h.loadFrom_le k i
        rw [loadFrom_some hg, loadOf_active hs] at le ⊢
        rw [hm, leaveRun_load]
        exact Nat.sub_add_cancel le
      · have le := h.chargeFrom_le i
        rw [chargeFrom_some hg, room_of_state hs] at le ⊢
        rw [ht, leaveRun_totalCharge]
        exact Nat.sub_add_cancel le
    · have hm : (c.detach profiles i).loadMap = c.loadMap := by simp only [detach_waits hg hw]
      have ht : (c.detach profiles i).totalCharge = c.totalCharge := by simp only [detach_waits hg hw]
      have no := not_active_of_waits hw
      rw [hm, ht, chargeFrom_some hg, room_of_inactive no]
      exact ⟨fun k => by rw [loadFrom_some hg, loadOf_inactive no, Nat.add_zero], by simp⟩
    · have no : g.isActive = false := by simp [Grant.isActive, hs]
      rw [detach_closed hg (isClosed_of_closed hs), chargeFrom_some hg, room_of_inactive no]
      exact ⟨fun k => by rw [loadFrom_some hg, loadOf_inactive no, Nat.add_zero], by simp⟩

/-- A grant that leaves ACTIVE, by whatever move. -/
theorem AccountExact.left (h : AccountExact profiles c) (hm : d.loadMap = (c.detach profiles i).loadMap)
    (ht : d.totalCharge = (c.detach profiles i).totalCharge) (others : ∀ j, j ≠ i → d.grantAt j = c.grantAt j)
    (here : ∀ g, d.grantAt i = some g → g.isActive = false) : AccountExact profiles d := by
  obtain ⟨load, charge⟩ := detach_account h i
  have gone : (∀ k, d.loadFrom profiles k i = 0) ∧ d.chargeFrom profiles i = 0 := by
    cases hg : d.grantAt i with
    | none => exact ⟨fun k => loadFrom_none hg, chargeFrom_none hg⟩
    | some g =>
      refine ⟨fun k => by rw [loadFrom_some hg, loadOf_inactive (here g hg)], ?_⟩
      rw [chargeFrom_some hg, room_of_inactive (here g hg), Nat.mul_zero]
  refine h.of_one others (fun k => ?_) ?_
  · rw [hm, load k, gone.1 k, Nat.add_zero]
  · rw [ht, charge, gone.2, Nat.add_zero]

theorem free_accountExact (h : AccountExact profiles c) (i : SlotIx) : AccountExact profiles (c.free profiles i) :=
  h.left (by rw [Controller.free, emptySlot_loadMap]) (by rw [Controller.free, emptySlot_totalCharge])
    (fun _ => free_grantAt_of_ne _ _) fun g hg => by rw [free_grantAt] at hg; cases hg

theorem retire_accountExact (h : AccountExact profiles c) (i : SlotIx) (r : CloseReason) :
    AccountExact profiles (c.retire profiles i r) := by
  cases hg : c.grantAt i with
  | none => rw [retire_of_free _ hg]; exact h
  | some g =>
    refine h.left (i := i) ?_ ?_ (fun _ => retire_grantAt_of_ne _ _ _) fun g' hg' => ?_
    · simp only [Controller.retire, hg, putGrant_loadMap]
    · simp only [Controller.retire, hg, putGrant_totalCharge]
    · rw [retire_grantAt _ hg] at hg'; cases hg'; rfl

theorem shed_accountExact (h : AccountExact profiles c) (i : SlotIx) : AccountExact profiles (c.shed profiles i) := by
  cases hg : c.grantAt i with
  | none => rw [shed_of_free _ hg]; exact h
  | some g =>
    refine h.left (i := i) ?_ ?_ (fun _ => shed_grantAt_of_ne _ _) fun g' hg' => ?_
    · simp only [Controller.shed, hg, enterWaiting_loadMap, putGrant_loadMap]
    · simp only [Controller.shed, hg, enterWaiting_totalCharge, putGrant_totalCharge]
    · rw [shed_grantAt _ hg] at hg'; cases hg'; rfl

theorem preempt_accountExact (h : AccountExact profiles c) (i : SlotIx) : AccountExact profiles (c.preempt profiles i) := by
  obtain ⟨hm, ht, -⟩ := preempt_account c profiles i
  refine h.left (i := i) hm ht (fun _ => preempt_grantAt_of_ne _ _) fun g' hg' => ?_
  cases hg : c.grantAt i with
  | none => simp only [Controller.preempt, hg] at hg'; cases hg'
  | some g => rw [preempt_grantAt _ hg] at hg'; cases hg'; rfl

theorem shedAll_accountExact (h : AccountExact profiles c) : AccountExact profiles (c.shedAll profiles) :=
  shedAll_induct h fun _ i _ hd => shed_accountExact hd i

/-- A record written where none was ACTIVE, and that is not ACTIVE itself. -/
theorem AccountExact.wrote (h : AccountExact profiles c) (hm : d.loadMap = c.loadMap) (ht : d.totalCharge = c.totalCharge)
    (others : ∀ j, j ≠ i → d.grantAt j = c.grantAt j) (before : (c.grantAt i).any Grant.isActive = false)
    (here : (d.grantAt i).any Grant.isActive = false) : AccountExact profiles d := by
  have zero : ∀ {e : Controller}, (e.grantAt i).any Grant.isActive = false →
      (∀ k, e.loadFrom profiles k i = 0) ∧ e.chargeFrom profiles i = 0 := by
    intro e he
    cases hg : e.grantAt i with
    | none => exact ⟨fun k => loadFrom_none hg, chargeFrom_none hg⟩
    | some g =>
      have no : g.isActive = false := by simpa [hg] using he
      exact ⟨fun k => by rw [loadFrom_some hg, loadOf_inactive no],
        by rw [chargeFrom_some hg, room_of_inactive no, Nat.mul_zero]⟩
  refine h.of_one others (fun k => ?_) ?_
  · rw [hm, (zero before).1 k, (zero here).1 k]
  · rw [ht, (zero before).2, (zero here).2]

/-- A grant made ACTIVE where none was brings its run (R38). -/
theorem activate_accountExact (h : AccountExact profiles c) (before : (c.grantAt i).any Grant.isActive = false) (g : Grant)
    (s : Segment) (f : Nat) : AccountExact profiles (c.activate profiles i g s f) := by
  have zero : (∀ k, c.loadFrom profiles k i = 0) ∧ c.chargeFrom profiles i = 0 := by
    cases hg : c.grantAt i with
    | none => exact ⟨fun k => loadFrom_none hg, chargeFrom_none hg⟩
    | some g =>
      have no : g.isActive = false := by simpa [hg] using before
      exact ⟨fun k => by rw [loadFrom_some hg, loadOf_inactive no],
        by rw [chargeFrom_some hg, room_of_inactive no, Nat.mul_zero]⟩
  have here := activate_grantAt c profiles i g s f
  refine h.of_one (fun _ hj => activate_grantAt_of_ne _ _ _ _ _ hj) (fun k => ?_) ?_
  · rw [activate_load, zero.1 k, loadFrom_some here, loadOf_active rfl, Nat.add_zero]
  · rw [activate_totalCharge, zero.2, chargeFrom_some here]; rfl

/-- Rewriting a record that keeps state and channel. -/
theorem rewrite_accountExact (h : AccountExact profiles c) {g g' : Grant} (hg : c.grantAt i = some g)
    (state : g'.state = g.state) (channel : g'.channel = g.channel) : AccountExact profiles (c.putGrant i g') := by
  have here := putGrant_grantAt c i g'
  refine h.of_one (fun _ hj => putGrant_grantAt_of_ne _ _ hj) (fun k => ?_) ?_
  · rw [putGrant_loadMap, loadFrom_some hg, loadFrom_some here]; simp only [loadOf, state, channel]
  · rw [putGrant_totalCharge, chargeFrom_some hg, chargeFrom_some here]; simp only [Grant.room, state, channel]

theorem visit_accountExact (h : AccountExact profiles c) (i : SlotIx) : AccountExact profiles (c.visit profiles i) := by
  rcases visit_cases profiles c i with hv | ⟨g, hg, he, ⟨s, -, hv⟩ | ⟨-, hv⟩⟩ <;> rw [hv]
  · exact h
  · have hw := eligible_waits he
    have no : (c.grantAt i).any Grant.isActive = false := by simp [hg, not_active_of_waits hw]
    have detached : AccountExact profiles (c.detach profiles i) :=
      h.of_grants (by simp only [detach_waits hg hw]) (by simp only [detach_waits hg hw]) fun j => detach_grantAt _ _ _ _
    exact activate_accountExact detached (by rw [detach_grantAt]; exact no) _ _ _
  · exact h.wrote (i := i) (by rw [Controller.promote, putGrant_loadMap]) (by rw [Controller.promote, putGrant_totalCharge])
      (fun _ hj => promote_grantAt_of_ne _ _ hj) (by simp [hg, not_active_of_waits (eligible_waits he)])
      (by rw [promote_grantAt]; rfl)

/-! ## A run cut in two (R38) -/

/-- A longer run of at most 64 segments covers what the shorter one covers, and behind it its tail, and no segment twice. -/
theorem covers_split {s : Segment} {r f : Nat} (h : r ≤ f) (bound : f ≤ 64) (k : Segment) (current : Nat) :
    (if covers s f k then current else 0) =
      (if covers s r k then current else 0) + if covers (segmentAfter s r) (f - r) k then current else 0 := by
  have hs := s.isLt
  have hk := k.isLt
  by_cases inside : (k.val + 64 - s.val) % 64 < r
  · have hf : (k.val + 64 - s.val) % 64 < f := inside.trans_le h
    have out : ¬ (k.val + 64 - (s.val + r) % 64) % 64 < f - r := by omega
    simp only [covers, segmentAfter, decide_eq_true_eq, inside, hf, out, if_true, if_false, Nat.add_zero]
  · have same : ((k.val + 64 - (s.val + r) % 64) % 64 < f - r) ↔ (k.val + 64 - s.val) % 64 < f := by omega
    simp only [covers, segmentAfter, decide_eq_true_eq, inside, same, if_false, Nat.zero_add]

/-- A reservation that grows or shrinks moves its tail (R38). -/
theorem resize_accountExact (h : AccountExact profiles c) {g : Grant} {start : Segment} {r f : Nat}
    (hg : c.grantAt i = some g) (hs : g.state = .active start r) (hr : r ≤ 64) (hf : f ≤ 64) :
    AccountExact profiles (c.resize profiles i f) := by
  have here := resize_grantAt profiles hg hs f
  refine h.of_one (fun _ hj => resize_grantAt_of_ne _ _ _ hj) (fun k => ?_) ?_
  · rw [loadFrom_some hg, loadFrom_some here, loadOf_active hs, loadOf_active rfl]
    simp only [Controller.resize, hg, hs]
    split
    · rename_i le
      rw [enterRun_load, putGrant_loadMap]
      have := covers_split (s := start) le hf k (currentOf profiles g.channel)
      omega
    · rename_i gt
      rw [leaveRun_load, putGrant_loadMap]
      have le := h.loadFrom_le k i
      rw [loadFrom_some hg, loadOf_active hs] at le
      have := covers_split (s := start) (Nat.le_of_not_le gt) hr k (currentOf profiles g.channel)
      omega
  · rw [chargeFrom_some hg, chargeFrom_some here, room_of_state hs]
    simp only [Controller.resize, hg, hs, Grant.room]
    split
    · rename_i le
      rw [enterRun_totalCharge, putGrant_totalCharge, Nat.add_assoc, ← Nat.mul_add, Nat.sub_add_cancel le]
    · rename_i gt
      have le := h.chargeFrom_le i
      rw [chargeFrom_some hg, room_of_state hs] at le
      have split : currentOf profiles g.channel * r =
          currentOf profiles g.channel * (r - f) + currentOf profiles g.channel * f := by
        rw [← Nat.mul_add, Nat.sub_add_cancel (Nat.le_of_not_le gt)]
      rw [leaveRun_totalCharge, putGrant_totalCharge]
      omega

/-- The rebuilt account is exact by its definition (R39). -/
theorem rebuild_accountExact (c : Controller) : AccountExact profiles (c.rebuild profiles) := by
  have same : ∀ j, (c.rebuild profiles).grantAt j = c.grantAt j := fun j => grantAt_of_table (rebuild_table _ _) j
  refine ⟨fun k => ?_, ?_⟩
  · rw [sum_slots_congr (fun j => loadFrom_congr (same j) k)]
    simp only [Controller.rebuild, Fin.getElem_fin, Vector.getElem_ofFn]
  · rw [sum_slots_congr (fun j => chargeFrom_congr (same j))]
    simp only [Controller.rebuild]

/-- An empty table with an empty account. -/
theorem accountExact_of_empty (hm : ∀ k : Segment, c.loadMap[k] = 0) (ht : c.totalCharge = 0)
    (hg : ∀ j, c.grantAt j = none) : AccountExact profiles c := by
  refine ⟨fun k => ?_, ?_⟩
  · rw [hm k, sum_slots_congr (f := fun _ => 0) fun j => loadFrom_none (hg j)]; simp
  · rw [ht, sum_slots_congr (f := fun _ => 0) fun j => chargeFrom_none (hg j)]; simp

end

theorem freeAll_accountExact (profiles : Vector Profile 16) (c : Controller) : AccountExact profiles c.freeAll :=
  accountExact_of_empty (fun k => by simp only [Controller.freeAll, Fin.getElem_fin, Vector.getElem_replicate])
    (by simp only [Controller.freeAll]) (freeAll_grantAt c)

theorem Cleared.accountExact {s : State} {ch : Channel} {c : Controller} (h : Cleared s ch c)
    (exact : AccountExact s.config.profiles s.ctl) : AccountExact s.config.profiles c := by
  cases h with
  | free => exact exact
  | preempted => exact preempt_accountExact exact _

theorem any_active_of_none {c : Controller} {i : SlotIx} (h : c.grantAt i = none) :
    (c.grantAt i).any Grant.isActive = false := by rw [h]; rfl

theorem createWaiting_accountExact {c : Controller} {profiles : Vector Profile 16} {i : SlotIx}
    (h : AccountExact profiles c) (free : c.grantAt i = none) (a : GrantArgs) (who : Client) {state : GrantState}
    (waits : state = .deferred ∨ state = .queued) : AccountExact profiles (c.createWaiting profiles a who i state) :=
  h.wrote (i := i) (by rw [Controller.createWaiting, enterWaiting_loadMap, putGrant_loadMap])
    (by rw [Controller.createWaiting, enterWaiting_totalCharge, putGrant_totalCharge])
    (fun _ hj => createWaiting_grantAt_of_ne _ _ _ _ _ hj) (any_active_of_none free)
    (by rw [createWaiting_grantAt]; rcases waits with rfl | rfl <;> rfl)

/-- Every move keeps the account exact, with the ranges and the emptiness of CONFIG. -/
theorem Move.accountExact {frees : Prop} {s t : State} (m : Move frees s t) (empty : ConfigEmpty s)
    (ranges : RangesKept s.ctl) (h : AccountExact s.config.profiles s.ctl) : AccountExact t.config.profiles t.ctl := by
  cases m with
  | quiet config ctl =>
    rw [config]
    exact h.of_grants (same_loadMap ctl) (same_totalCharge ctl) (same_grantAt ctl)
  | createActive allowed cleared =>
    exact activate_accountExact (cleared.accountExact h) (any_active_of_none (cleared_grantAt_free cleared allowed.free)) _ _ _
  | createDeferred allowed cleared =>
    exact createWaiting_accountExact (cleared.accountExact h) (cleared_grantAt_free cleared allowed.free) _ _ (.inl rfl)
  | createQueued allowed => exact createWaiting_accountExact h allowed.free _ _ (.inr rfl)
  | rewrite here same => exact rewrite_accountExact h here same.state same.channel
  | shrink here active le =>
    have room := (ranges.1 _ _ here).2.2
    rw [room_of_state active] at room
    exact resize_accountExact h here active room (le.trans room)
  | grow here active le bound => exact resize_accountExact h here active (le.trans bound) bound
  | stepRamps =>
    have load : ∀ j k, s.ctl.stepRamps.loadFrom s.config.profiles k j = s.ctl.loadFrom s.config.profiles k j := by
      intro j k
      cases hg : s.ctl.grantAt j <;> simp only [Controller.loadFrom, stepRamps_grantAt, hg, Option.map_none, Option.map_some,
        stepped_state, stepped_channel]
    refine h.congr (by simp only [withCtl_ctl, Controller.stepRamps]) (by simp only [withCtl_ctl, Controller.stepRamps])
      (fun k j => load j k) fun j => ?_
    cases hg : s.ctl.grantAt j <;> simp only [withCtl_ctl, Controller.chargeFrom, stepRamps_grantAt, hg, Option.map_none,
      Option.map_some, stepped_room, stepped_channel]
  | free _ i => exact free_accountExact h i
  | retire i reason => exact retire_accountExact h i reason
  | visit i => exact visit_accountExact h i
  | endRepack => exact h.of_grants rfl rfl fun _ => rfl
  | startGrant => exact h.of_grants rfl rfl fun _ => rfl
  | startAdjust => exact h.of_grants rfl rfl fun _ => rfl
  | planReady => exact h.of_grants rfl rfl fun _ => rfl
  | @apply held plan =>
    have rebuilt := rebuild_accountExact (profiles := s.config.profiles) (movedAndMade s.ctl held plan)
    have eq := appliedController_eq s.ctl s.config.profiles held plan
    rw [dropPlan_ctl, withCtl_ctl, dropPlan_config, withCtl_config, eq]
    exact rebuilt.of_grants (withoutRepack_loadMap _) (withoutRepack_totalCharge _) fun j => withoutRepack_grantAt _ _
  | @tierDrop tier =>
    have loaded : AccountExact s.config.profiles (s.ctl.loadTier s.config.tiers tier) :=
      h.of_grants (loadTier_loadMap _ _ _) (loadTier_totalCharge _ _ _) fun j => grantAt_of_table (loadTier_table _ _ _) j
    exact shedAll_accountExact loaded
  | tierLoad =>
    exact h.of_grants (loadTier_loadMap _ _ _) (loadTier_totalCharge _ _ _) fun j => grantAt_of_table (loadTier_table _ _ _) j
  | @configure config before =>
    have none := (empty before).1
    refine accountExact_of_empty (fun k => ?_) ?_ none
    · rw [h.1 k, sum_slots_congr (f := fun _ => 0) fun j => loadFrom_none (none j)]; simp
    · rw [h.2, sum_slots_congr (f := fun _ => 0) fun j => chargeFrom_none (none j)]; simp
  | setTiers =>
    exact h.of_grants (loadTier_loadMap _ _ _) (loadTier_totalCharge _ _ _) fun j => grantAt_of_table (loadTier_table _ _ _) j
  | start => exact h
  | stop => exact freeAll_accountExact _ _
  | clear =>
    exact (freeAll_accountExact Configuration.reset.profiles s.ctl).of_grants (loadTier_loadMap _ _ _)
      (loadTier_totalCharge _ _ _) fun j => grantAt_of_table (loadTier_table _ _ _) j

theorem Move.roomExact {frees : Prop} {s t : State} (m : Move frees s t) (h : RoomExact s) : RoomExact t := by
  obtain ⟨empty, ranges, exact⟩ := h
  exact ⟨m.configEmpty empty, m.rangesKept ranges, m.accountExact empty ranges exact⟩

theorem markTaken_roomExact {s : State} (h : RoomExact s) (p : Port) (r : Request) : RoomExact (s.markTaken p r) := by
  obtain ⟨empty, ranges, exact⟩ := h
  exact ⟨markTaken_configEmpty empty p r, by simpa only [markTaken_ctl] using ranges,
    by simpa only [MapExact, markTaken_ctl, markTaken_config] using exact⟩

theorem reset_rangesKept : RangesKept State.reset.ctl :=
  ⟨fun i g hg => (by rw [reset_grantAt] at hg; cases hg), fun hf => Bool.noConfusion (reset_inFlight.symm.trans hf)⟩
theorem reset_mapExact : MapExact State.reset :=
  accountExact_of_empty (fun k => by simp [State.reset, Controller.reset]) rfl reset_grantAt
theorem reset_roomExact : RoomExact State.reset := ⟨reset_configEmpty, reset_rangesKept, reset_mapExact⟩

/-- Settles O7: every move keeps the account. -/
theorem roomAccountKept : Obligations.RoomAccountKept := fun _ _ hs h =>
  step_keeps (P := RoomExact) (fun _ _ h => h) (fun _ => reset_roomExact) (fun _ p r _ h => markTaken_roomExact h p r)
    (fun _ _ _ m h => m.roomExact h) hs h

end Sys2Proof.Proofs
end

section
/-! SUPPORT. The reservation bound of R98 and the home segment of R60 under every move. -/

namespace Sys2Proof.Proofs

open Sys2Proof Sys2Proof.Machine Sys2Proof.Safety Sys2Proof.Laws

/-! ## Generations under every move -/

section
variable {c d : Controller} {profiles : Vector Profile 16} {i j : SlotIx}

theorem generation_of_table (h : d.table = c.table) (j : SlotIx) : d.table[j].generation = c.table[j].generation := by rw [h]

theorem retire_generation (c : Controller) (i j : SlotIx) (r : CloseReason) :
    (c.retire profiles i r).table[j].generation = c.table[j].generation := by
  unfold Controller.retire
  split
  · rfl
  · rw [putGrant_generation, detach_table]
theorem shed_generation (c : Controller) (i j : SlotIx) :
    (c.shed profiles i).table[j].generation = c.table[j].generation := by
  unfold Controller.shed
  split
  · rfl
  · rw [enterWaiting_table, putGrant_generation, detach_table]
theorem preempt_generation (c : Controller) (i j : SlotIx) :
    (c.preempt profiles i).table[j].generation = c.table[j].generation := by
  unfold Controller.preempt
  split
  · rfl
  · rw [enterWaiting_table, putGrant_generation, detach_table]
theorem activate_generation (c : Controller) (i j : SlotIx) (g : Grant) (s : Segment) (f : Nat) :
    (c.activate profiles i g s f).table[j].generation = c.table[j].generation := by
  by_cases e : j = i
  · subst e; rw [activate_slot]
  · rw [activate_slot_of_ne _ _ _ _ _ e]
theorem createWaiting_generation (c : Controller) (a : GrantArgs) (who : Client) (i j : SlotIx) (state : GrantState) :
    (c.createWaiting profiles a who i state).table[j].generation = c.table[j].generation := by
  rw [createWaiting_table, putGrant_generation]
theorem resize_generation (c : Controller) (i j : SlotIx) (f : Nat) :
    (c.resize profiles i f).table[j].generation = c.table[j].generation := by
  by_cases e : j = i
  · subst e
    cases ha : (c.grantAt j).any Grant.isActive with
    | false => rw [resize_of_inactive profiles ha]
    | true =>
      obtain ⟨g, hg, hact⟩ := (Option.any_eq_true _ _).1 ha
      obtain ⟨start, r, hs⟩ := isActive_iff.1 hact
      rw [resize_slot hg hs]
  · rw [resize_slot_of_ne _ _ _ e]
theorem stepRamps_generation (c : Controller) (j : SlotIx) :
    c.stepRamps.table[j].generation = c.table[j].generation := by
  simp only [Controller.stepRamps, Fin.getElem_fin, Vector.getElem_ofFn]
theorem shedAll_generation (c : Controller) (j : SlotIx) :
    (c.shedAll profiles).table[j].generation = c.table[j].generation :=
  shedAll_induct (motive := fun d => d.table[j].generation = c.table[j].generation) rfl fun d i _ hd =>
    (shed_generation d i j).trans hd
theorem free_generation_of_ne (c : Controller) (h : j ≠ i) :
    (c.free profiles i).table[j].generation = c.table[j].generation := by rw [free_slot_of_ne _ _ h]

theorem movedAndMade_generation (held : HeldRequest) (c : Controller) (plan : List Proposal) (j : SlotIx) :
    (movedAndMade c held plan).table[j].generation = c.table[j].generation := by
  have moved : (plan.foldl (moveOne held) c).table[j].generation = c.table[j].generation :=
    moved_induct (motive := fun d => d.table[j].generation = c.table[j].generation) rfl fun d q _ hd => by
      rcases moveOne_record held d q with hm | ⟨i, g, start, r, -, -, -, hm⟩ <;> rw [hm]
      · exact hd
      · rw [putGrant_generation]; exact hd
  unfold movedAndMade
  cases hc : createdBy c held plan with
  | none => exact moved
  | some made =>
    obtain ⟨i, g⟩ := made
    exact (putGrant_generation _ _ _ _).trans moved

end

theorem Cleared.generation {s : State} {ch : Channel} {c : Controller} (h : Cleared s ch c) (j : SlotIx) :
    c.table[j].generation = s.ctl.table[j].generation := by
  cases h with
  | free => rfl
  | preempted => exact preempt_generation _ _ _

/-- A move advances a generation only where it leaves the slot FREE, and only a move that frees does. -/
theorem Move.generation {frees : Prop} {s t : State} (m : Move frees s t) (j : SlotIx) :
    t.ctl.table[j].generation = s.ctl.table[j].generation ∨ (frees ∧ t.ctl.grantAt j = none) := by
  cases m with
  | quiet _ ctl => exact .inl (generation_of_table (same_table ctl) j)
  | createActive _ cleared => exact .inl ((activate_generation _ _ _ _ _ _).trans (cleared.generation j))
  | createDeferred _ cleared => exact .inl ((createWaiting_generation _ _ _ _ _ _).trans (cleared.generation j))
  | createQueued => exact .inl (createWaiting_generation _ _ _ _ _ _)
  | rewrite => exact .inl (putGrant_generation _ _ _ _)
  | shrink => exact .inl (resize_generation _ _ _ _)
  | grow => exact .inl (resize_generation _ _ _ _)
  | stepRamps => exact .inl (stepRamps_generation _ _)
  | free allowed i =>
    by_cases e : j = i
    · subst e; exact .inr ⟨allowed, free_grantAt _ _ _⟩
    · exact .inl (free_generation_of_ne _ e)
  | retire => exact .inl (retire_generation _ _ _ _)
  | visit i => exact .inl (visit_generation _ _ i j)
  | @apply held plan =>
    have same := movedAndMade_generation held s.ctl plan j
    left
    rw [dropPlan_ctl, withCtl_ctl, appliedController_eq, withoutRepack_table, rebuild_table]
    exact same
  | @tierDrop tier =>
    exact .inl ((shedAll_generation _ _).trans (generation_of_table (loadTier_table _ _ _) j))
  | tierLoad => exact .inl (generation_of_table (loadTier_table _ _ _) j)
  | setTiers => exact .inl (generation_of_table (loadTier_table _ _ _) j)
  | stop allowed => exact .inr ⟨allowed, freeAll_grantAt _ _⟩
  | clear allowed => exact .inr ⟨allowed, clearAll_grantAt _ _⟩
  | endRepack => exact .inl rfl
  | startGrant => exact .inl rfl
  | startAdjust => exact .inl rfl
  | planReady => exact .inl rfl
  | configure => exact .inl rfl
  | start => exact .inl rfl

/-! ## The reservation bound (R98) -/

theorem footprint_mono {d e : Nat} (h : d ≤ e) : footprint d ≤ footprint e := by unfold footprint; omega
theorem profile_of_channel (profiles : Vector Profile 16) {ch ch' : Channel} (h : ch' = ch) : profiles[ch'] = profiles[ch] := by
  rw [h]
@[simp] theorem footprint_zero : footprint 0 = 0 := rfl

/-- The adjusted grant of a repack is the grant its handle names. -/
theorem lookup_of_adjusting {c : Controller} {i : SlotIx} {g : Grant} {held : HeldRequest} {handle target : Nat}
    (ha : c.adjusting i = true) (hh : c.held = some held) (hk : held.kind = .adjust handle target)
    (hg : c.grantAt i = some g) : c.lookup handle = some (i, g) := by
  simp only [Controller.adjusting, hh, hk, Bool.and_eq_true, Option.any_eq_true_iff_get, beq_iff_eq] at ha
  obtain ⟨-, his, he⟩ := ha
  obtain ⟨⟨i', g'⟩, hl⟩ := Option.isSome_iff_exists.1 his
  simp only [hl, Option.get_some] at he
  subst he
  rw [hl, (lookup_some_iff _ _ _ _).1 hl |>.1.symm.trans hg |> Option.some.inj]

theorem grantBounded_of_waiting {profiles : Vector Profile 16} {g : Grant} (ht : g.targetDuty ≤ profiles[g.channel].maxDuty)
    (hp : g.presentDuty ≤ profiles[g.channel].maxDuty) (no : g.isActive = false) : grantBounded profiles g :=
  ⟨ht, hp, fun ha => by rw [no] at ha; cases ha⟩

theorem Stands.bounded {s : State} {after : Bool} {i : SlotIx} {g' : Grant} (st : Stands s after i g')
    (old : ∀ g, s.ctl.grantAt i = some g → grantBounded s.config.profiles g)
    (held : heldBounded s.config.profiles s.ctl) : grantBounded s.config.profiles g' := by
  cases st with
  | kept here => exact old _ here
  | createdActive allowed => exact ⟨allowed.bound, Nat.zero_le _, fun _ => ⟨footprint_zero.le.trans (Nat.zero_le _), le_rfl⟩⟩
  | createdWaiting allowed waits =>
    exact grantBounded_of_waiting allowed.bound (Nat.zero_le _) (by rcases waits with rfl | rfl <;> rfl)
  | @rewritten g g' here same target =>
    obtain ⟨ht, hp, hr⟩ := old _ here
    have room : g'.room = g.room := by simp only [Grant.room, same.state]
    refine ⟨?_, by rw [same.present, profile_of_channel _ same.channel]; exact hp, fun ha => ?_⟩
    · rw [profile_of_channel _ same.channel]
      rcases target with e | ⟨-, le, -⟩
      · rw [e]; exact ht
      · exact le
    · rw [isActive_of_state same.state] at ha
      rw [same.present, room]
      refine ⟨(hr ha).1, ?_⟩
      rcases target with e | ⟨-, -, le⟩
      · rw [e]; exact (hr ha).2
      · exact le ha
  | inactive here not =>
    obtain ⟨ht, hp, -⟩ := old _ here
    refine grantBounded_of_waiting ht hp (Bool.eq_false_iff.2 fun ha => ?_)
    obtain ⟨start, r, hs⟩ := isActive_iff.1 ha
    exact not start r hs
  | admitted here =>
    obtain ⟨ht, hp, -⟩ := old _ here
    exact ⟨ht, hp, fun _ => ⟨le_max_left _ _, le_max_right _ _⟩⟩
  | shrunk here _ _ present target =>
    obtain ⟨ht, hp, -⟩ := old _ here
    exact ⟨ht, hp, fun _ => ⟨present, target⟩⟩
  | grown here active le =>
    obtain ⟨ht, hp, hr⟩ := old _ here
    obtain ⟨h1, h2⟩ := hr (isActive_of_active active)
    rw [room_of_state active] at h1 h2
    exact ⟨ht, hp, fun _ => ⟨h1.trans le, h2.trans le⟩⟩
  | @stepped g here =>
    obtain ⟨ht, hp, hr⟩ := old _ here
    refine ⟨by rw [stepped_target, profile_of_channel _ (stepped_channel g)]; exact ht,
      by rw [profile_of_channel _ (stepped_channel g)]; exact (stepped_present_le g).trans (max_le hp ht), fun ha => ?_⟩
    rw [isActive_of_state (stepped_state g)] at ha
    rw [stepped_target, stepped_room]
    refine ⟨?_, (hr ha).2⟩
    rcases max_choice g.presentDuty g.targetDuty with e | e
    · exact (footprint_mono ((stepped_present_le g).trans_eq e)).trans (hr ha).1
    · exact (footprint_mono ((stepped_present_le g).trans_eq e)).trans (hr ha).2
  | @moved g h plan q start r due hheld planned here active =>
    obtain ⟨ht, hp, hr⟩ := old _ here
    have act := isActive_of_active active
    rcases movedRecord_cases h (s.ctl.adjusting i) g q.start with e | ⟨adj, handle, target, hk, e⟩ <;> rw [e]
    · exact ⟨ht, hp, fun _ => hr act⟩
    · have bound := held (inFlight_of_applyPending due) h hheld
      rw [hk] at bound
      obtain ⟨needed, named⟩ := bound
      obtain ⟨le, room⟩ := named i g (lookup_of_adjusting adj hheld hk here)
      exact ⟨le, hp, fun _ => ⟨(hr act).1.trans room, needed.symm.le⟩⟩
  | @made _ h plan due hheld planned created =>
    obtain ⟨ch, prio, duty, lease, start, hk, -, -, rfl⟩ := createdBy_some created
    have bound := held (inFlight_of_applyPending due) h hheld
    rw [hk] at bound
    exact ⟨bound.1, Nat.zero_le _, fun _ => ⟨footprint_zero.le.trans (Nat.zero_le _), bound.2.symm.le⟩⟩

/-- While a repack stays in flight no record is created, becomes ACTIVE, grows or goes to another channel. -/
theorem Stands.flying {s : State} {i : SlotIx} {g' : Grant} (st : Stands s true i g') :
    ∃ g, s.ctl.grantAt i = some g ∧ g'.channel = g.channel ∧ g'.room ≤ g.room ∧
      (g'.isActive = true → g.isActive = true) := by
  cases st with
  | kept here => exact ⟨_, here, rfl, le_rfl, id⟩
  | createdActive _ _ _ idle => cases idle
  | createdWaiting _ _ idle => cases idle
  | @rewritten g g' here same =>
    exact ⟨g, here, same.channel, by simp only [Grant.room, same.state, le_refl], by rw [isActive_of_state same.state]; exact id⟩
  | @inactive g state notices here not =>
    refine ⟨g, here, rfl, (room_of_not_active not).trans_le (Nat.zero_le _), fun ha => ?_⟩
    obtain ⟨start, r, hs⟩ := isActive_iff.1 ha
    exact absurd hs (not start r)
  | admitted _ _ idle => cases idle
  | shrunk here active le =>
    exact ⟨_, here, rfl, by rw [room_of_state active]; exact le, fun _ => isActive_of_active active⟩
  | grown _ _ _ _ idle => cases idle
  | @stepped g here =>
    exact ⟨g, here, stepped_channel g, (stepped_room g).le, by rw [isActive_of_state (stepped_state g)]; exact id⟩
  | moved _ _ _ _ _ _ _ idle => cases idle
  | made _ _ _ _ idle => cases idle

/-- What a handle names after a move with a repack in flight it named before. -/
theorem Move.lookup_flying {frees : Prop} {s t : State} (m : Move frees s t) (hf : t.ctl.inFlight = true) {handle : Nat}
    {i : SlotIx} {g' : Grant} (h : t.ctl.lookup handle = some (i, g')) :
    ∃ g, s.ctl.lookup handle = some (i, g) ∧ g'.channel = g.channel ∧ g'.room ≤ g.room := by
  obtain ⟨hg', hh⟩ := (lookup_some_iff _ _ _ _).1 h
  have st := m.stands hg'
  rw [hf] at st
  obtain ⟨g, hg, hch, hr, -⟩ := st.flying
  refine ⟨g, (lookup_some_iff _ _ _ _).2 ⟨hg, ?_⟩, hch, hr⟩
  rcases m.generation i with e | ⟨-, none⟩
  · rw [← hh, handleAt_def, handleAt_def, e]
  · rw [none] at hg'; cases hg'

theorem Move.heldBounded {frees : Prop} {s t : State} (m : Move frees s t)
    (h : heldBounded s.config.profiles s.ctl) : heldBounded s.config.profiles t.ctl := by
  intro hf held hheld
  rcases m.flying hf with ⟨hf', hh, -⟩ | ⟨a, k, i, allowed, -, rfl⟩ |
    ⟨a, k, i, g, start, r, named, active, more, -, bound, -, rfl⟩
  · have old := h hf' held (hh ▸ hheld)
    cases hk : held.kind with
    | grant ch prio duty lease => rw [hk] at old; exact old
    | adjust handle target =>
      rw [hk] at old
      refine ⟨old.1, fun i g' hg' => ?_⟩
      obtain ⟨g, hg, hch, hr⟩ := m.lookup_flying hf hg'
      rw [profile_of_channel _ hch]
      exact ⟨(old.2 i g hg).1, hr.trans (old.2 i g hg).2⟩
  · cases hheld
    exact ⟨allowed.bound, rfl⟩
  · cases hheld
    refine ⟨rfl, fun i' g' hg' => ?_⟩
    have same : some (i', g') = some (i, g) := hg'.symm.trans named
    cases same
    exact ⟨bound, by rw [room_of_state active]; exact more.le⟩

theorem Move.reservationBound {frees : Prop} {s t : State} (m : Move frees s t) (h : ReservationBound s) :
    ReservationBound t := by
  obtain ⟨empty, held, bounded⟩ := h
  refine ⟨m.configEmpty empty, ?_⟩
  rcases m.profiles empty with same | ⟨none, idle⟩
  · rw [same]
    exact ⟨m.heldBounded held, fun i g hg => (m.stands hg).bounded (bounded i) held⟩
  · exact ⟨fun hf => (by rw [idle] at hf; cases hf), fun i g hg => by rw [none i] at hg; cases hg⟩

/-! ## The home segment of a pinned channel (R60) -/

theorem firstFit_some {m : Vector Nat 64} {total peak charge current f : Nat} {home : Segment} {pinned : Bool} {s : Segment}
    (h : firstFit m total peak charge current home pinned f = some s) :
    fits m total peak charge current s f = true ∧ s ∈ candidates home pinned :=
  ⟨List.find?_some (p := fun s => fits m total peak charge current s f) h, List.mem_of_find?_eq_some h⟩

theorem firstFit_pinned {m : Vector Nat 64} {total peak charge current f : Nat} {home s : Segment}
    (h : firstFit m total peak charge current home true f = some s) : s = home := by
  simpa [candidates] using (firstFit_some h).2

theorem place_of_placeUnlessTier3 {c : Controller} {profiles : Vector Profile 16} {ch : Channel} {f : Nat} {s : Segment}
    (h : c.placeUnlessTier3 profiles ch f = some s) : c.place profiles ch f = some s := by
  unfold Controller.placeUnlessTier3 at h
  split at h
  · cases h
  · exact h

theorem place_pinned {c : Controller} {profiles : Vector Profile 16} {ch : Channel} {f : Nat} {s : Segment}
    (h : c.placeUnlessTier3 profiles ch f = some s) (pinned : profiles[ch].pinned = true) : s = profiles[ch].home := by
  have placed := place_of_placeUnlessTier3 h
  rw [Controller.place, pinned] at placed
  exact firstFit_pinned placed

/-- A record of a pinned channel that is ACTIVE starts at home. -/
def AtHome (profiles : Vector Profile 16) (g : Grant) : Prop :=
  ∀ start r, g.state = .active start r → profiles[g.channel].pinned = true → start = profiles[g.channel].home

/-- A plan that has the home segment for each pinned channel it places: the clause of the law on the repack in flight. -/
def PlanAtHome (s : State) : Prop :=
  s.ctl.inFlight = true → ∀ h plan, s.ctl.held = some h → s.planner.plan = some plan → ∀ q ∈ plan,
    (∀ (i : SlotIx) (g : Grant), q.entry.slot = some i → s.ctl.grantAt i = some g → g.isActive = true →
      s.config.profiles[g.channel].pinned = true → q.start = s.config.profiles[g.channel].home) ∧
    (q.entry.slot = none → ∀ ch prio duty lease, h.kind = .grant ch prio duty lease →
      s.config.profiles[ch].pinned = true → q.start = s.config.profiles[ch].home)

theorem requesterStart_some {plan : List Proposal} {start : Segment} (h : requesterStart plan = some start) :
    ∃ q ∈ plan, q.entry.slot = none ∧ q.start = start := by
  unfold requesterStart at h
  rw [Option.map_eq_some_iff] at h
  obtain ⟨q, hq, rfl⟩ := h
  exact ⟨q, List.mem_of_find?_eq_some hq, by simpa using List.find?_some hq, rfl⟩

theorem Stands.atHome {s : State} {after : Bool} {i : SlotIx} {g' : Grant} (st : Stands s after i g')
    (old : ∀ g, s.ctl.grantAt i = some g → AtHome s.config.profiles g) (planned : PlanAtHome s) :
    AtHome s.config.profiles g' := by
  cases st with
  | kept here => exact old _ here
  | createdActive allowed cleared fit =>
    rintro start r hs pinned
    cases hs
    exact place_pinned fit pinned
  | createdWaiting allowed waits =>
    rintro start r hs
    rcases waits with rfl | rfl <;> cases hs
  | rewritten here same =>
    rintro start r hs
    rw [profile_of_channel _ same.channel]
    exact old _ here start r (same.state ▸ hs)
  | inactive here not => exact fun start r hs => absurd hs (not start r)
  | admitted here fit =>
    rintro start r hs pinned
    cases hs
    exact place_pinned fit pinned
  | shrunk here active =>
    rintro start r hs
    cases hs
    exact old _ here _ _ active
  | grown here active =>
    rintro start r hs
    cases hs
    exact old _ here _ _ active
  | stepped here =>
    rintro start r hs
    rw [profile_of_channel _ (stepped_channel _)]
    exact old _ here start r ((stepped_state _).symm.trans hs)
  | @moved g h plan q start r due hheld hplan here active mem slot =>
    have home := (planned (inFlight_of_applyPending due) h plan hheld hplan q mem).1 i g slot here (isActive_of_active active)
    rcases movedRecord_cases h (s.ctl.adjusting i) g q.start with e | ⟨-, handle, target, -, e⟩ <;> rw [e] <;>
      (rintro start r hs; cases hs; exact home)
  | @made _ h plan due hheld hplan created =>
    obtain ⟨ch, prio, duty, lease, start, hk, -, hst, rfl⟩ := createdBy_some created
    obtain ⟨q, mem, none, rfl⟩ := requesterStart_some hst
    rintro start r hs
    cases hs
    exact (planned (inFlight_of_applyPending due) h plan hheld hplan q mem).2 none ch prio duty lease hk

/-! ### The plan of a repack just started -/

/-- A plan places each entry of its input set once, each by first-fit after those before it. -/
theorem takeInput_plan {serial : Byte} {input : List PlanEntry} {peak charge : Nat} {plan : List Proposal}
    (h : (takeInput serial input peak charge).plan = some plan) :
    (plan.map Proposal.entry).Perm input ∧ PlacedInTurn peak charge plan := by
  obtain ⟨-, -, -, -, order, perm, -, outcome⟩ := takeInput_outcome serial input peak charge
  rw [h] at outcome
  obtain ⟨rfl, turn⟩ := outcome
  exact ⟨perm, turn⟩

theorem entry_mem_of_perm {plan : List Proposal} {input : List PlanEntry} (h : (plan.map Proposal.entry).Perm input)
    {q : Proposal} (hq : q ∈ plan) : q.entry ∈ input := h.mem_iff.1 (List.mem_map_of_mem hq)

/-- Each proposal is a place of first-fit for its entry. -/
theorem placedInTurn_fit {peak charge : Nat} {plan : List Proposal} (h : PlacedInTurn peak charge plan) {q : Proposal}
    (hq : q ∈ plan) : ∃ before, fitAfter peak charge before q.entry = some q.start := by
  obtain ⟨before, after, e⟩ := List.append_of_mem hq
  exact ⟨before, h before q after e⟩

theorem placedInTurn_pinned {peak charge : Nat} {plan : List Proposal} (h : PlacedInTurn peak charge plan) {q : Proposal}
    (hq : q ∈ plan) (pinned : q.entry.pinned = true) : q.start = q.entry.home := by
  obtain ⟨before, fit⟩ := placedInTurn_fit h hq
  rw [fitAfter, pinned] at fit
  exact firstFit_pinned fit

/-- The footprint at which an ACTIVE grant enters the input set: its reservation, the adjusted grant's its need (R81). -/
def inputFootprint (adjusted : Option (SlotIx × Nat)) (i : SlotIx) (g : Grant) : Nat :=
  match adjusted with
  | some (j, need) => if j = i then need else g.room
  | none => g.room

theorem mem_activeEntries {c : Controller} {profiles : Vector Profile 16} {adjusted : Option (SlotIx × Nat)} {e : PlanEntry} :
    e ∈ activeEntries c profiles adjusted ↔ ∃ i g, c.grantAt i = some g ∧ g.isActive = true ∧
      e = planEntryOf profiles (some i) g.channel g.priority (inputFootprint adjusted i g) := by
  unfold activeEntries
  rw [List.mem_filterMap]
  constructor
  · rintro ⟨i, -, he⟩
    cases hg : c.grantAt i with
    | none => simp [hg] at he
    | some g =>
      cases ha : g.isActive with
      | false => simp [hg, ha] at he
      | true =>
        refine ⟨i, g, hg, ha, ?_⟩
        simp only [hg, ha, if_true, Option.some.injEq] at he
        rw [← he]; rfl
  · rintro ⟨i, g, hg, ha, rfl⟩
    exact ⟨i, List.mem_finRange i, by simp only [hg, ha, if_true]; rfl⟩

theorem startGrant_planAtHome (s : State) (a : GrantArgs) (k : Taken) :
    PlanAtHome (s.startRepack (heldGrant a k s.config.profiles[a.channel]) (grantInput s a)) := by
  rintro - h plan hheld hplan q hq
  cases hheld
  obtain ⟨perm, turn⟩ := takeInput_plan hplan
  have mem := entry_mem_of_perm perm hq
  rw [grantInput, List.mem_append, mem_activeEntries, List.mem_singleton] at mem
  refine ⟨fun i g slot hg ha pinned => ?_, fun slot ch prio duty lease hk pinned => ?_⟩
  · rcases mem with ⟨i', g', hg', -, e⟩ | e
    · rw [e] at slot; cases slot
      cases hg'.symm.trans hg
      have home := placedInTurn_pinned turn hq (by rw [e]; exact pinned)
      rw [home, e]; rfl
    · rw [e] at slot; cases slot
  · cases hk
    rcases mem with ⟨i', g', hg', -, e⟩ | e
    · rw [e] at slot; cases slot
    · have home := placedInTurn_pinned turn hq (by rw [e]; exact pinned)
      rw [home, e]; rfl

theorem startAdjust_planAtHome (s : State) (a : AdjustArgs) (k : Taken) (p : Profile) (adjusted : Option (SlotIx × Nat)) :
    PlanAtHome (s.startRepack (heldAdjust a k p) (activeEntries s.ctl s.config.profiles adjusted)) := by
  rintro - h plan hheld hplan q hq
  cases hheld
  obtain ⟨perm, turn⟩ := takeInput_plan hplan
  have mem := entry_mem_of_perm perm hq
  obtain ⟨i', g', hg', -, e⟩ := mem_activeEntries.1 mem
  refine ⟨fun i g slot hg ha pinned => ?_, fun slot => by rw [e] at slot; cases slot⟩
  rw [e] at slot; cases slot
  cases hg'.symm.trans hg
  have home := placedInTurn_pinned turn hq (by rw [e]; exact pinned)
  rw [home, e]; rfl

theorem Move.pinnedHome {frees : Prop} {s t : State} (m : Move frees s t) (h : PinnedHome s) : PinnedHome t := by
  obtain ⟨empty, home, planned⟩ := h
  refine ⟨m.configEmpty empty, ?_⟩
  rcases m.profiles empty with same | ⟨none, idle⟩
  · refine ⟨fun i g start r hg => ?_, fun hf => ?_⟩
    · rw [same]
      exact (m.stands hg).atHome (fun g hg start r => home i g start r hg) planned start r
    · rcases m.flying hf with ⟨hf', hh, hp⟩ | ⟨a, k, i, -, -, rfl⟩ | ⟨a, k, i, g, start, r, -, -, -, -, -, -, rfl⟩
      · rw [same, hh, hp]
        intro held plan hheld hplan q hq
        obtain ⟨slots, new⟩ := planned hf' held plan hheld hplan q hq
        refine ⟨fun i g' slot hg' ha pinned => ?_, new⟩
        have st := m.stands hg'
        rw [hf] at st
        obtain ⟨g, hg, hch, -, hact⟩ := st.flying
        rw [profile_of_channel _ hch] at pinned ⊢
        exact slots i g slot hg (hact ha) pinned
      · exact startGrant_planAtHome s a k hf
      · exact startAdjust_planAtHome s a k _ _ hf
  · exact ⟨fun i g _ _ hg => (by rw [none i] at hg; cases hg), fun hf => by rw [idle] at hf; cases hf⟩

theorem reset_reservationBound : ReservationBound State.reset :=
  ⟨reset_configEmpty, fun hf => Bool.noConfusion (reset_inFlight.symm.trans hf),
    fun i g hg => by rw [reset_grantAt] at hg; cases hg⟩
theorem reset_pinnedHome : PinnedHome State.reset :=
  ⟨reset_configEmpty, fun i g _ _ hg => (by rw [reset_grantAt] at hg; cases hg),
    fun hf => Bool.noConfusion (reset_inFlight.symm.trans hf)⟩

/-- Settles O8: every move keeps both laws. -/
theorem reservationBoundKept : Obligations.ReservationBoundKept :=
  ⟨fun _ _ hs h => step_keeps (P := ReservationBound) (fun _ _ h => h) (fun _ => reset_reservationBound)
      (fun s p r _ h => by simpa only [ReservationBound, ConfigEmpty, markTaken_config, markTaken_ctl] using h)
      (fun _ _ _ m h => m.reservationBound h) hs h,
    fun _ _ hs h => step_keeps (P := PinnedHome) (fun _ _ h => h) (fun _ => reset_pinnedHome)
      (fun s p r _ h => by simpa only [PinnedHome, ConfigEmpty, markTaken_config, markTaken_ctl, markTaken_planner] using h)
      (fun _ _ _ m h => m.pinnedHome h) hs h⟩

end Sys2Proof.Proofs
end

section
/-! SUPPORT. The ceilings in force under every move: ceilings, order of the tier table, plans, and the account within them. -/

namespace Sys2Proof.Proofs

open Sys2Proof Sys2Proof.Machine Sys2Proof.Safety Sys2Proof.Laws

/-! ## Ceilings and tier table -/

/-- The ceilings in force and the tier table stay. -/
structure SameCeilings (s t : State) : Prop where
  tiers : t.config.tiers = s.config.tiers
  tier : t.ctl.tierInForce = s.ctl.tierInForce
  peak : t.ctl.peakInForce = s.ctl.peakInForce
  charge : t.ctl.chargeInForce = s.ctl.chargeInForce

theorem SameCeilings.of_kept {s : State} {d : Controller} (h : CeilingsAndRepackKept s.ctl d) : SameCeilings s (s.withCtl d) := by
  obtain ⟨tier, peak, charge, -⟩ := h
  exact ⟨rfl, tier, peak, charge⟩

theorem SameCeilings.loaded {s t : State} (h : SameCeilings s t) (loaded : CeilingsLoaded s) : CeilingsLoaded t := by
  obtain ⟨peak, charge⟩ := loaded
  exact ⟨by rw [h.peak, h.tiers, h.tier]; exact peak, by rw [h.charge, h.tiers, h.tier]; exact charge⟩

theorem Cleared.kept {s : State} {ch : Channel} {c : Controller} (h : Cleared s ch c) : CeilingsAndRepackKept s.ctl c := by
  cases h with
  | free => exact ceilingsKept_refl _
  | preempted =>
    exact ⟨preempt_tierInForce _ _ _, preempt_peakInForce _ _ _, preempt_chargeInForce _ _ _, preempt_repack _ _ _,
      preempt_held _ _ _, preempt_planSerial _ _ _⟩

theorem activate_kept (c : Controller) (profiles : Vector Profile 16) (i : SlotIx) (g : Grant) (s : Segment) (f : Nat) :
    CeilingsAndRepackKept c (c.activate profiles i g s f) :=
  ⟨activate_tierInForce _ _ _ _ _ _, activate_peakInForce _ _ _ _ _ _, activate_chargeInForce _ _ _ _ _ _,
    activate_repack _ _ _ _ _ _, activate_held _ _ _ _ _ _, activate_planSerial _ _ _ _ _ _⟩
theorem putGrant_kept (c : Controller) (i : SlotIx) (g : Grant) : CeilingsAndRepackKept c (c.putGrant i g) :=
  ⟨putGrant_tierInForce _ _ _, putGrant_peakInForce _ _ _, putGrant_chargeInForce _ _ _, putGrant_repack _ _ _,
    putGrant_held _ _ _, putGrant_planSerial _ _ _⟩
theorem enterWaiting_kept (c : Controller) (i : SlotIx) : CeilingsAndRepackKept c (c.enterWaiting i) :=
  ⟨enterWaiting_tierInForce _ _, enterWaiting_peakInForce _ _, enterWaiting_chargeInForce _ _, enterWaiting_repack _ _,
    enterWaiting_held _ _, enterWaiting_planSerial _ _⟩
theorem createWaiting_kept (c : Controller) (profiles : Vector Profile 16) (a : GrantArgs) (who : Client) (i : SlotIx)
    (state : GrantState) : CeilingsAndRepackKept c (c.createWaiting profiles a who i state) :=
  ceilingsKept_trans (putGrant_kept _ _ _) (enterWaiting_kept _ _)
theorem resize_kept (c : Controller) (profiles : Vector Profile 16) (i : SlotIx) (f : Nat) :
    CeilingsAndRepackKept c (c.resize profiles i f) :=
  ⟨resize_tierInForce _ _ _ _, resize_peakInForce _ _ _ _, resize_chargeInForce _ _ _ _, resize_repack _ _ _ _,
    resize_held _ _ _ _, resize_planSerial _ _ _ _⟩
theorem free_kept (c : Controller) (profiles : Vector Profile 16) (i : SlotIx) :
    CeilingsAndRepackKept c (c.free profiles i) :=
  ⟨free_tierInForce _ _ _, free_peakInForce _ _ _, free_chargeInForce _ _ _, free_repack _ _ _, free_held _ _ _,
    free_planSerial _ _ _⟩
theorem retire_kept (c : Controller) (profiles : Vector Profile 16) (i : SlotIx) (r : CloseReason) :
    CeilingsAndRepackKept c (c.retire profiles i r) :=
  ⟨retire_tierInForce _ _ _ _, retire_peakInForce _ _ _ _, retire_chargeInForce _ _ _ _, retire_repack _ _ _ _,
    retire_held _ _ _ _, retire_planSerial _ _ _ _⟩
theorem stepRamps_kept (c : Controller) : CeilingsAndRepackKept c c.stepRamps := by
  simp only [CeilingsAndRepackKept, Controller.stepRamps, and_self]

theorem loadTier_loaded (s : State) (tier : Tier) (config : Configuration) (c : Controller)
    (h : CeilingsAndRepackKept (s.ctl.loadTier config.tiers tier) c) :
    CeilingsLoaded { s with config := config, ctl := c } := by
  obtain ⟨ht, hp, hc, -⟩ := h
  refine ⟨?_, ?_⟩
  · show c.peakInForce = (tierCeilings config.tiers c.tierInForce).peak
    rw [hp, ht]; rfl
  · show c.chargeInForce = (tierCeilings config.tiers c.tierInForce).charge
    rw [hc, ht]; rfl

/-- A move leaves ceilings and tier table, drops or loads a tier, writes the tier table in CONFIG, or clears the part. -/
theorem Move.ceilings {frees : Prop} {s t : State} (m : Move frees s t) :
    SameCeilings s t ∨ (s.config.mode = .run ∧ s.ctl.inFlight = false ∧ CeilingsLoaded t ∧ t.config = s.config) ∨
    (∃ tier, (s.config.mode = .config ∨ tier < s.ctl.tierInForce) ∧ t = s.withCtl (s.ctl.loadTier s.config.tiers tier)) ∨
    (t.config.mode = .config ∧ CeilingsLoaded t ∧ t.ctl.inFlight = s.ctl.inFlight) := by
  cases m with
  | quiet config ctl =>
    exact .inl ⟨by rw [config], same_tierInForce ctl, same_peakInForce ctl, same_chargeInForce ctl⟩
  | createActive _ cleared => exact .inl (.of_kept (ceilingsKept_trans cleared.kept (activate_kept _ _ _ _ _ _)))
  | createDeferred _ cleared => exact .inl (.of_kept (ceilingsKept_trans cleared.kept (createWaiting_kept _ _ _ _ _ _)))
  | createQueued => exact .inl (.of_kept (createWaiting_kept _ _ _ _ _ _))
  | rewrite => exact .inl (.of_kept (putGrant_kept _ _ _))
  | shrink => exact .inl (.of_kept (resize_kept _ _ _ _))
  | grow => exact .inl (.of_kept (resize_kept _ _ _ _))
  | stepRamps => exact .inl (.of_kept (stepRamps_kept _))
  | free => exact .inl (.of_kept (free_kept _ _ _))
  | retire => exact .inl (.of_kept (retire_kept _ _ _ _))
  | visit => exact .inl (.of_kept (visit_ceilings _ _ _))
  | endRepack => exact .inl ⟨rfl, rfl, rfl, rfl⟩
  | startGrant => exact .inl ⟨rfl, rfl, rfl, rfl⟩
  | startAdjust => exact .inl ⟨rfl, rfl, rfl, rfl⟩
  | planReady => exact .inl ⟨rfl, rfl, rfl, rfl⟩
  | @apply held plan =>
    obtain ⟨-, tier, peak, charge, -⟩ := movedAndMade_kept s.ctl held plan
    have eq := appliedController_eq s.ctl s.config.profiles held plan
    refine .inl ⟨by rw [dropPlan_config, withCtl_config], ?_, ?_, ?_⟩
    · rw [dropPlan_ctl, withCtl_ctl, eq, withoutRepack_tierInForce, rebuild_tierInForce, tier]
    · rw [dropPlan_ctl, withCtl_ctl, eq, withoutRepack_peakInForce, rebuild_peakInForce, peak]
    · rw [dropPlan_ctl, withCtl_ctl, eq, withoutRepack_chargeInForce, rebuild_chargeInForce, charge]
  | @tierDrop tier running idle =>
    exact .inr (.inl ⟨running, idle, loadTier_loaded s tier s.config _ (shedAll_ceilings _ _), withCtl_config _ _⟩)
  | @tierLoad tier when_ => exact .inr (.inr (.inl ⟨tier, when_, rfl⟩))
  | configure _ _ tiers => exact .inl ⟨tiers, rfl, rfl, rfl⟩
  | setTiers mode table =>
    exact .inr (.inr (.inr ⟨mode, loadTier_loaded s _ { s.config with tiers := table } _ (ceilingsKept_refl _), rfl⟩))
  | start => exact .inl ⟨rfl, rfl, rfl, rfl⟩
  | stop => exact .inl ⟨rfl, by simp only [Controller.freeAll], by simp only [Controller.freeAll], by simp only [Controller.freeAll]⟩
  | clear =>
    refine .inr (.inr (.inr ⟨rfl, ?_, clearAll_inFlight _⟩))
    refine ⟨?_, ?_⟩ <;> rfl

theorem Move.ceilingsLoaded {frees : Prop} {s t : State} (m : Move frees s t) (h : CeilingsLoaded s) : CeilingsLoaded t := by
  rcases m.ceilings with same | ⟨-, -, loaded, -⟩ | ⟨tier, -, rfl⟩ | ⟨-, loaded, -⟩
  · exact same.loaded h
  · exact loaded
  · exact ⟨rfl, rfl⟩
  · exact loaded

theorem tierOutOfOrder_none {t : TierTable} (h : tierOutOfOrder t = none) :
    t.tier1.peak ≤ t.tier0.peak ∧ t.tier1.charge ≤ t.tier0.charge ∧ t.tier2.peak ≤ t.tier1.peak ∧
    t.tier2.charge ≤ t.tier1.charge := by
  unfold tierOutOfOrder at h
  split at h
  · cases h
  · split at h
    · cases h
    · rename_i h1 h2
      simp only [ceilingsWithin, Bool.not_eq_true', decide_eq_false_iff_not, not_not] at h1 h2
      exact ⟨h1.1, h1.2, h2.1, h2.2⟩

theorem Move.tiersDescend {frees : Prop} {s t : State} (m : Move frees s t) (h : TiersDescend s) : TiersDescend t := by
  cases m with
  | quiet config => intro run; rw [config] at run ⊢; exact h run
  | configure _ config => intro run; rw [show _ = Mode.config from config] at run; cases run
  | setTiers mode => intro run; cases mode.symm.trans run
  | start _ order => exact fun _ => tierOutOfOrder_none order
  | stop => intro run; cases run
  | clear => intro run; cases run
  | _ => simpa only [TiersDescend, withCtl_config, dropPlan_config, endRepack_config, startRepack_config] using h

/-- In RUN a less severe tier has ceilings no lower. -/
theorem tierCeilings_mono {s : State} (h : TiersDescend s) (run : s.config.mode = .run) {tier tier' : Tier} (le : tier ≤ tier') :
    (tierCeilings s.config.tiers tier').peak ≤ (tierCeilings s.config.tiers tier).peak ∧
    (tierCeilings s.config.tiers tier').charge ≤ (tierCeilings s.config.tiers tier).charge := by
  obtain ⟨p1, c1, p2, c2⟩ := h run
  match tier, tier', le with
  | 0, 0, _ => exact ⟨le_rfl, le_rfl⟩
  | 0, 1, _ => exact ⟨p1, c1⟩
  | 0, 2, _ => exact ⟨p2.trans p1, c2.trans c1⟩
  | 0, 3, _ => exact ⟨Nat.zero_le _, Nat.zero_le _⟩
  | 1, 1, _ => exact ⟨le_rfl, le_rfl⟩
  | 1, 2, _ => exact ⟨p2, c2⟩
  | 1, 3, _ => exact ⟨Nat.zero_le _, Nat.zero_le _⟩
  | 2, 2, _ => exact ⟨le_rfl, le_rfl⟩
  | 2, 3, _ => exact ⟨Nat.zero_le _, Nat.zero_le _⟩
  | 3, 3, _ => exact ⟨le_rfl, le_rfl⟩

/-! ## Plans that can be applied (R89) -/

theorem fits_iff {m : Vector Nat 64} {total peak charge current f : Nat} {s : Segment} :
    fits m total peak charge current s f = true ↔
      (∀ k : Segment, covers s f k = true → m[k] + current ≤ peak) ∧ total + current * f ≤ charge := by
  simp only [fits, Bool.and_eq_true, List.all_eq_true, Bool.or_eq_true, Bool.not_eq_true', decide_eq_true_eq]
  refine and_congr_left fun _ => ⟨fun h k hk => ?_, fun h k _ => ?_⟩
  · rcases h k (List.mem_finRange k) with h | h
    · rw [h] at hk; cases hk
    · exact h
  · cases hc : covers s f k with
    | false => exact .inl rfl
    | true => exact .inr (h k hc)

/-- A map within the ceilings takes a run that fits. -/
theorem fits_within {m : Vector Nat 64} {total peak charge current f : Nat} {s : Segment}
    (h : fits m total peak charge current s f = true) (k : Segment) (within : m[k] ≤ peak) :
    m[k] + (if covers s f k then current else 0) ≤ peak := by
  split
  · rename_i hc; exact (fits_iff.1 h).1 k hc
  · exact within

/-- A plan made in turn stays within its ceilings (R84). -/
theorem placedInTurn_within {peak charge : Nat} (plan : List Proposal) (h : PlacedInTurn peak charge plan) :
    (∀ k : Segment, planLoad plan k ≤ peak) ∧ planCharge plan ≤ charge := by
  induction plan using List.reverseRecOn with
  | nil => exact ⟨fun k => Nat.zero_le _, Nat.zero_le _⟩
  | append_singleton l q ih =>
    have before : PlacedInTurn peak charge l := fun b x a e => h b x (a ++ [q]) (by rw [e]; simp)
    obtain ⟨load, -⟩ := ih before
    have fit := (firstFit_some (h l q [] rfl)).1
    refine ⟨fun k => ?_, ?_⟩
    · rw [planLoad_append]
      simpa using fits_within fit k (by simpa using load k)
    · rw [planCharge_append]
      exact (fits_iff.1 fit).2

theorem activeEntries_slots_nodup (c : Controller) (profiles : Vector Profile 16) (adjusted : Option (SlotIx × Nat)) :
    ((activeEntries c profiles adjusted).map PlanEntry.slot).Nodup := by
  unfold activeEntries
  rw [List.map_filterMap]
  refine (List.nodup_finRange 32).filterMap fun i j slot hi hj => ?_
  have named : ∀ x : SlotIx, slot ∈ (match c.grantAt x with
      | some g =>
        if g.isActive then
          let f := match adjusted with
            | some (j, need) => if j = x then need else g.room
            | none => g.room
          some (planEntryOf profiles (some x) g.channel g.priority f)
        else none
      | none => none).map PlanEntry.slot → slot = some x := by
    intro x hx
    cases hg : c.grantAt x with
    | none => simp [hg] at hx
    | some g =>
      cases ha : g.isActive with
      | false => simp [hg, ha] at hx
      | true => simpa [hg, ha, planEntryOf, eq_comm] using hx
  exact Option.some_injective _ ((named i hi).symm.trans (named j hj))

theorem slots_nodup_of_perm {plan : List Proposal} {input : List PlanEntry} (perm : (plan.map Proposal.entry).Perm input)
    (h : (input.map PlanEntry.slot).Nodup) : (plan.map fun q => q.entry.slot).Nodup := by
  have e : (plan.map fun q => q.entry.slot) = (plan.map Proposal.entry).map PlanEntry.slot := by simp [List.map_map, Function.comp_def]
  rw [e]
  exact (perm.map _).nodup_iff.2 h

theorem exists_of_perm {plan : List Proposal} {input : List PlanEntry} (perm : (plan.map Proposal.entry).Perm input)
    {e : PlanEntry} (he : e ∈ input) : ∃ q ∈ plan, q.entry = e := by
  simpa using perm.mem_iff.2 he

theorem startGrant_planSound (s : State) (a : GrantArgs) (k : Taken) :
    PlanSound (s.startRepack (heldGrant a k s.config.profiles[a.channel]) (grantInput s a)) := by
  rintro - h plan hheld hplan
  cases hheld
  obtain ⟨perm, turn⟩ := takeInput_plan hplan
  obtain ⟨load, charge⟩ := placedInTurn_within plan turn
  refine ⟨load, charge, slots_nodup_of_perm perm ?_, fun i g hg ha => ?_, ?_⟩
  · rw [grantInput, List.map_append, List.map_singleton]
    refine List.nodup_append.2 ⟨activeEntries_slots_nodup _ _ _, List.nodup_singleton _, ?_⟩
    rintro x hx y hy rfl
    obtain ⟨e, he, rfl⟩ := List.mem_map.1 hx
    obtain ⟨i, g, -, -, rfl⟩ := mem_activeEntries.1 he
    cases List.mem_singleton.1 hy
  · obtain ⟨q, hq, e⟩ := exists_of_perm perm (List.mem_append_left _ (mem_activeEntries.2 ⟨i, g, hg, ha, rfl⟩))
    refine ⟨q, hq, by rw [e]; rfl, by rw [e]; rfl, by rw [e]; exact le_rfl, fun adj => ?_⟩
    exact absurd adj (by simp [Controller.adjusting, heldGrant])
  · obtain ⟨q, hq, e⟩ := exists_of_perm perm (List.mem_append_right _ (List.mem_singleton.2 rfl))
    exact ⟨q, hq, by rw [e]; rfl, by rw [e]; rfl, by rw [e]; exact le_rfl⟩

theorem startAdjust_planSound {s : State} {a : AdjustArgs} {k : Taken} {i : SlotIx} {g : Grant} {start : Segment} {r : Nat}
    (named : s.ctl.lookup a.handle = some (i, g)) (active : g.state = .active start r) (more : r < footprint a.target)
    (p : Profile) : PlanSound (s.startRepack (heldAdjust a k p)
      (activeEntries s.ctl s.config.profiles (some (i, footprint a.target)))) := by
  rintro - h plan hheld hplan
  cases hheld
  obtain ⟨perm, turn⟩ := takeInput_plan hplan
  obtain ⟨load, charge⟩ := placedInTurn_within plan turn
  refine ⟨load, charge, slots_nodup_of_perm perm (activeEntries_slots_nodup _ _ _), fun j x hx ha => ?_, trivial⟩
  obtain ⟨q, hq, e⟩ := exists_of_perm perm (mem_activeEntries.2 ⟨j, x, hx, ha, rfl⟩)
  refine ⟨q, hq, by rw [e]; rfl, by rw [e]; rfl, ?_, fun adj => ?_⟩
  · rw [e]
    show x.room ≤ if i = j then footprint a.target else x.room
    split
    · rename_i same
      subst same
      cases (lookup_grantAt named).symm.trans hx
      rw [room_of_state active]; exact more.le
    · exact le_rfl
  · have named' := lookup_of_adjusting adj rfl rfl hx
    cases named.symm.trans named'
    rw [e]
    exact (if_pos rfl).ge

/-- While a repack stays in flight the adjusted grant was the adjusted grant. -/
theorem Move.adjusting_flying {frees : Prop} {s t : State} (m : Move frees s t) (hf : t.ctl.inFlight = true)
    (hs : s.ctl.inFlight = true) (held : t.ctl.held = s.ctl.held) {i : SlotIx} (h : t.ctl.adjusting i = true) :
    s.ctl.adjusting i = true := by
  unfold Controller.adjusting at h ⊢
  rw [held] at h
  cases hh : s.ctl.held with
  | none => simp only [hh] at h; cases h
  | some x =>
    simp only [hh] at h ⊢
    cases hk : x.kind with
    | grant ch prio duty lease => simp only [hk] at h; cases h
    | adjust handle target =>
      simp only [hk, Bool.and_eq_true] at h ⊢
      obtain ⟨-, found⟩ := h
      cases hl : t.ctl.lookup handle with
      | none => rw [hl] at found; cases found
      | some y =>
        obtain ⟨j, g'⟩ := y
        obtain ⟨g, hg, -⟩ := m.lookup_flying hf hl
        rw [hl] at found
        exact ⟨hs, by rw [hg]; exact found⟩

/-- Where a repack stays in flight the ceilings rise or stay. -/
theorem Move.ceilings_flying {frees : Prop} {s t : State} (m : Move frees s t) (empty : ConfigEmpty s)
    (loaded : CeilingsLoaded s) (descend : TiersDescend s) (hs : s.ctl.inFlight = true) (hf : t.ctl.inFlight = true) :
    s.ctl.peakInForce ≤ t.ctl.peakInForce ∧ s.ctl.chargeInForce ≤ t.ctl.chargeInForce := by
  have run := running_of_inFlight empty hs
  rcases m.ceilings with same | ⟨-, idle, -⟩ | ⟨tier, when_, rfl⟩ | ⟨config, -, -⟩
  · exact ⟨same.peak.ge, same.charge.ge⟩
  · rw [idle] at hs; cases hs
  · rcases when_ with config | less
    · rw [run] at config; cases config
    · obtain ⟨peak, charge⟩ := tierCeilings_mono descend run less.le
      rw [loaded.1, loaded.2]
      exact ⟨peak, charge⟩
  · have none := (m.configEmpty empty config).2
    rw [hf] at none; cases none

theorem Move.planSound {frees : Prop} {s t : State} (m : Move frees s t) (empty : ConfigEmpty s)
    (loaded : CeilingsLoaded s) (descend : TiersDescend s) (h : PlanSound s) : PlanSound t := by
  intro hf
  rcases m.flying hf with ⟨hs, hh, hp⟩ | ⟨a, k, i, -, -, rfl⟩ | ⟨a, k, i, g, start, r, named, active, more, -, -, -, rfl⟩
  · have same : t.config.profiles = s.config.profiles := by
      rcases m.profiles empty with same | ⟨-, idle⟩
      · exact same
      · rw [idle] at hf; cases hf
    obtain ⟨peak, charge⟩ := m.ceilings_flying empty loaded descend hs hf
    intro held plan hheld hplan
    rw [hh] at hheld
    rw [hp] at hplan
    obtain ⟨hload, hcharge, nodup, slots, new⟩ := h hs held plan hheld hplan
    refine ⟨fun k => (hload k).trans peak, hcharge.trans charge, nodup, fun i g' hg' ha => ?_, by rw [same]; exact new⟩
    have st := m.stands hg'
    rw [hf] at st
    obtain ⟨g, hg, hch, hr, hact⟩ := st.flying
    obtain ⟨q, hq, slot, current, room, adj⟩ := slots i g hg (hact ha)
    exact ⟨q, hq, slot, by rw [same, hch]; exact current, hr.trans room, fun k => adj (m.adjusting_flying hf hs hh k)⟩
  · exact startGrant_planSound s a k hf
  · exact startAdjust_planSound named active more _ hf

end Sys2Proof.Proofs
end

section
/-! SUPPORT. The account within the ceilings under every move: the sheds of a drop, and the apply of a plan (R89). -/

namespace Sys2Proof.Proofs

open Sys2Proof Sys2Proof.Machine Sys2Proof.Safety Sys2Proof.Laws

/-! ## The moves of a plan whose slots are named once -/

/-- A proposal that names an ACTIVE grant moves it. -/
theorem moveOne_of_active {held : HeldRequest} {c : Controller} {q : Proposal} {i : SlotIx} {g : Grant}
    (slot : q.entry.slot = some i) (hg : c.grantAt i = some g) (ha : g.isActive = true) :
    moveOne held c q = c.putGrant i (movedRecord held (c.adjusting i) g q.start) := by
  obtain ⟨start, r, hs⟩ := isActive_iff.1 ha
  unfold moveOne
  simp only [slot, hg, hs]
  cases hk : held.kind with
  | grant ch prio duty lease => rw [movedRecord_grant hk, room_of_state hs]
  | adjust handle target =>
    cases hadj : c.adjusting i with
    | true => rw [movedRecord_adjusted hk]; rfl
    | false => rw [movedRecord_other, room_of_state hs]; rfl

theorem proposal_unique {plan : List Proposal} (nodup : (plan.map fun q => q.entry.slot).Nodup) {q q' : Proposal}
    (hq : q ∈ plan) (hq' : q' ∈ plan) (h : q.entry.slot = q'.entry.slot) : q = q' :=
  List.inj_on_of_nodup_map nodup hq hq' h

/-- Moves that do not name a slot leave it. -/
theorem moved_grantAt_of_unnamed (held : HeldRequest) {c : Controller} {plan : List Proposal} {i : SlotIx}
    (h : ∀ q ∈ plan, q.entry.slot ≠ some i) : (plan.foldl (moveOne held) c).grantAt i = c.grantAt i :=
  moved_induct (motive := fun d => d.grantAt i = c.grantAt i) rfl fun d q hq hd =>
    (moveOne_grantAt_of_ne held d (.inl (h q hq))).trans hd

/-- An ACTIVE grant in the plan takes the start of its one proposal. -/
theorem moved_grantAt_of_named (held : HeldRequest) {c : Controller} {plan : List Proposal} {i : SlotIx} {g : Grant}
    {q : Proposal} (nodup : (plan.map fun q => q.entry.slot).Nodup) (hq : q ∈ plan) (slot : q.entry.slot = some i)
    (hg : c.grantAt i = some g) (ha : g.isActive = true) :
    (plan.foldl (moveOne held) c).grantAt i = some (movedRecord held (c.adjusting i) g q.start) := by
  obtain ⟨before, after, rfl⟩ := List.append_of_mem hq
  rw [List.map_append, List.map_cons, List.nodup_append] at nodup
  obtain ⟨-, nodupAfter, apart⟩ := nodup
  rw [List.nodup_cons] at nodupAfter
  have early : ∀ x ∈ before, x.entry.slot ≠ some i := fun x hx e =>
    apart _ (List.mem_map_of_mem (f := fun q : Proposal => q.entry.slot) hx) _ List.mem_cons_self (e.trans slot.symm)
  have late : ∀ x ∈ after, x.entry.slot ≠ some i := fun x hx e =>
    nodupAfter.1 (List.mem_map.2 ⟨x, hx, e.trans slot.symm⟩)
  rw [List.foldl_append, List.foldl_cons, moved_grantAt_of_unnamed held late,
    moveOne_of_active slot ((moved_grantAt_of_unnamed held early).trans hg) ha, putGrant_grantAt, moved_adjusting]

/-! ## Sums over the slots and over a plan -/

/-- Where each slot's part is one proposal's at most, and no two slots name the same proposal, the slots' sum is at most the
plan's. -/
theorem sum_slots_le_plan {part : SlotIx → Nat} {weight : Proposal → Nat} {key : SlotIx → Option SlotIx}
    (inj : Function.Injective key) (plan : List Proposal)
    (h : ∀ i, part i = 0 ∨ ∃ q ∈ plan, q.entry.slot = key i ∧ part i ≤ weight q) :
    (allSlots.map part).sum ≤ (plan.map weight).sum := by
  have named : ∀ i, part i ≤ (plan.map fun q => if q.entry.slot = key i then weight q else 0).sum := by
    intro i
    rcases h i with h | ⟨q, hq, slot, le⟩
    · rw [h]; exact Nat.zero_le _
    · refine le.trans ?_
      have mem : weight q ∈ plan.map fun q => if q.entry.slot = key i then weight q else 0 :=
        List.mem_map.2 ⟨q, hq, if_pos slot⟩
      exact List.single_le_sum (fun _ _ => Nat.zero_le _) _ mem
  have once : ∀ q : Proposal, ∑ i : SlotIx, (if q.entry.slot = key i then weight q else 0) ≤ weight q := by
    intro q
    by_cases found : ∃ i, q.entry.slot = key i
    · obtain ⟨i, hi⟩ := found
      rw [Finset.sum_eq_single i (fun j _ hj => if_neg fun e => hj (inj (e.symm.trans hi))) (by simp)]
      rw [if_pos hi]
    · rw [Finset.sum_eq_zero fun i _ => if_neg fun e => found ⟨i, e⟩]
      exact Nat.zero_le _
  unfold allSlots
  rw [← Fin.sum_univ_def]
  refine (Finset.sum_le_sum fun i _ => named i).trans ?_
  clear named h
  induction plan with
  | nil => simp
  | cons q plan ih =>
    simp only [List.map_cons, List.sum_cons, Finset.sum_add_distrib]
    exact Nat.add_le_add (once q) ih

theorem covers_mono {s : Segment} {r f : Nat} (h : r ≤ f) {k : Segment} (hc : covers s r k = true) : covers s f k = true := by
  simp only [covers, decide_eq_true_eq] at *
  exact hc.trans_le h

/-! ## The apply stays within the plan (R89) -/

/-- The proposal a slot takes its place from: the entry of the requested grant for the slot in which it is created. -/
def proposalKey (created : Option SlotIx) (i : SlotIx) : Option SlotIx := if created = some i then none else some i

theorem proposalKey_injective (created : Option SlotIx) : Function.Injective (proposalKey created) := by
  intro i j h
  unfold proposalKey at h
  split at h <;> split at h
  · rename_i hi hj; exact Option.some_injective _ (hi.symm.trans hj)
  · cases h
  · cases h
  · exact Option.some_injective _ h

/-- The parts of a plan that can be applied, clause by clause. -/
theorem applied_part {s : State} (sound : PlanSound s) (due : s.ctl.repack = .applyPending) {held : HeldRequest}
    {plan : List Proposal} (hheld : s.ctl.held = some held) (hplan : s.planner.plan = some plan) {i : SlotIx} {g' : Grant}
    (hg' : (movedAndMade s.ctl held plan).grantAt i = some g') (ha : g'.isActive = true) :
    ∃ q ∈ plan, q.entry.slot = proposalKey ((createdBy s.ctl held plan).map Prod.fst) i ∧ ∃ r,
      g'.state = .active q.start r ∧ r ≤ q.entry.footprint ∧ currentOf s.config.profiles g'.channel = q.entry.current := by
  obtain ⟨-, -, nodup, slots, new⟩ := sound (inFlight_of_applyPending due) held plan hheld hplan
  have moved : ∀ x, (plan.foldl (moveOne held) s.ctl).grantAt i = some x → x.isActive = true → ∃ q ∈ plan,
      q.entry.slot = some i ∧ ∃ r, x.state = .active q.start r ∧ r ≤ q.entry.footprint ∧
      currentOf s.config.profiles x.channel = q.entry.current := by
    intro x hx hxa
    cases hg : s.ctl.grantAt i with
    | none => rw [moved_grantAt_of_inactive held plan (any_active_of_none hg), hg] at hx; cases hx
    | some g =>
      cases hact : g.isActive with
      | false =>
        rw [moved_grantAt_of_inactive held plan (by simp [hg, hact]), hg] at hx
        cases hx
        rw [hact] at hxa; cases hxa
      | true =>
        obtain ⟨q, hq, slot, current, room, adj⟩ := slots i g hg hact
        rw [moved_grantAt_of_named held nodup hq slot hg hact] at hx
        cases hx
        rcases movedRecord_cases held (s.ctl.adjusting i) g q.start with e | ⟨had, handle, target, hk, e⟩ <;> rw [e]
        · exact ⟨q, hq, slot, g.room, rfl, room, current.symm⟩
        · exact ⟨q, hq, slot, held.needed, rfl, adj had, current.symm⟩
  unfold movedAndMade at hg'
  cases hc : createdBy s.ctl held plan with
  | none =>
    simp only [hc] at hg'
    obtain ⟨q, hq, slot, rest⟩ := moved _ hg' ha
    exact ⟨q, hq, slot, rest⟩
  | some made =>
    obtain ⟨j, x⟩ := made
    simp only [hc] at hg'
    by_cases e : i = j
    · subst e
      have same : some x = some g' := (putGrant_grantAt _ i x).symm.trans hg'
      cases same
      obtain ⟨ch, prio, duty, lease, start, hk, -, hst, rfl⟩ := createdBy_some hc
      rw [hk] at new
      obtain ⟨q, hq, slot, current, need⟩ := new
      obtain ⟨q', hq', slot', rfl⟩ := requesterStart_some hst
      obtain rfl := proposal_unique nodup hq hq' (slot.trans slot'.symm)
      exact ⟨q, hq, by rw [slot]; exact (if_pos rfl).symm, held.needed, rfl, need, current.symm⟩
    · obtain ⟨q, hq, slot, rest⟩ := moved _ ((putGrant_grantAt_of_ne _ x e).symm.trans hg') ha
      refine ⟨q, hq, ?_, rest⟩
      rw [slot]
      exact (if_neg fun h => e (Option.some_injective _ h).symm).symm

theorem applied_within {s : State} (sound : PlanSound s) (due : s.ctl.repack = .applyPending) {held : HeldRequest}
    {plan : List Proposal} (hheld : s.ctl.held = some held) (hplan : s.planner.plan = some plan) :
    (∀ k : Segment, (allSlots.map ((movedAndMade s.ctl held plan).loadFrom s.config.profiles k)).sum ≤ s.ctl.peakInForce) ∧
    (allSlots.map ((movedAndMade s.ctl held plan).chargeFrom s.config.profiles)).sum ≤ s.ctl.chargeInForce := by
  obtain ⟨load, charge, -⟩ := sound (inFlight_of_applyPending due) held plan hheld hplan
  have inj := proposalKey_injective ((createdBy s.ctl held plan).map Prod.fst)
  refine ⟨fun k => (sum_slots_le_plan inj plan fun i => ?_).trans (load k),
    (sum_slots_le_plan inj plan fun i => ?_).trans charge⟩
  · cases hg : (movedAndMade s.ctl held plan).grantAt i with
    | none => exact .inl (loadFrom_none hg)
    | some g' =>
      rw [loadFrom_some hg]
      cases ha : g'.isActive with
      | false => exact .inl (loadOf_inactive ha)
      | true =>
        obtain ⟨q, hq, slot, r, hs, le, current⟩ := applied_part sound due hheld hplan hg ha
        refine .inr ⟨q, hq, slot, ?_⟩
        rw [loadOf_active hs, current]
        split
        · rename_i hc; rw [if_pos (covers_mono le hc)]
        · exact Nat.zero_le _
  · cases hg : (movedAndMade s.ctl held plan).grantAt i with
    | none => exact .inl (chargeFrom_none hg)
    | some g' =>
      rw [chargeFrom_some hg]
      cases ha : g'.isActive with
      | false => exact .inl (by rw [room_of_inactive ha, Nat.mul_zero])
      | true =>
        obtain ⟨q, hq, slot, r, hs, le, current⟩ := applied_part sound due hheld hplan hg ha
        refine .inr ⟨q, hq, slot, ?_⟩
        rw [room_of_state hs, current]
        exact Nat.mul_le_mul_left _ le

/-! ## A drop ends within the ceilings (R144, R146) -/

theorem sum_slots_zero {f : SlotIx → Nat} (h : ∀ i, f i = 0) : (allSlots.map f).sum = 0 := by
  rw [sum_slots_congr (f := fun _ => 0) h]; simp

/-- Where no grant is left to shed, map and charge lie within the ceilings. -/
theorem within_of_nextShed {c : Controller} {profiles : Vector Profile 16} (lists : ListsExact c)
    (exact : AccountExact profiles c) (h : c.nextShed = none) : WithinCeilings c := by
  obtain ⟨-, -, -, admission, -⟩ := lists
  have unchosen : ∀ {test : Grant → Bool}, c.shedChoice test = none → ∀ {i g}, c.grantAt i = some g → g.isActive = true →
      test g = false := fun {_} hn {i g} hg ha => shedChoice_none hn ((admission i).2 (by rw [hg]; exact ha)) hg ha
  have noLoad : ∀ k, c.shedChoice (fun g => g.coversSegment k) = none → c.loadMap[k] = 0 := by
    intro k hn
    rw [exact.1 k]
    refine sum_slots_zero fun i => ?_
    cases hg : c.grantAt i with
    | none => exact loadFrom_none hg
    | some g =>
      rw [loadFrom_some hg]
      cases ha : g.isActive with
      | false => exact loadOf_inactive ha
      | true =>
        obtain ⟨start, r, hs⟩ := isActive_iff.1 ha
        have un := unchosen hn hg ha
        simp only [Grant.coversSegment, hs] at un
        rw [loadOf_active hs, un]; rfl
  have noCharge : c.shedChoice (fun g => decide (1 ≤ g.room)) = none → c.totalCharge = 0 := by
    intro hn
    rw [exact.2]
    refine sum_slots_zero fun i => ?_
    cases hg : c.grantAt i with
    | none => exact chargeFrom_none hg
    | some g =>
      rw [chargeFrom_some hg]
      cases ha : g.isActive with
      | false => rw [room_of_inactive ha, Nat.mul_zero]
      | true =>
        have un := unchosen hn hg ha
        rw [Nat.eq_zero_of_not_pos (by simpa using un : ¬ 0 < g.room), Nat.mul_zero]
  unfold Controller.nextShed at h
  split at h
  · have idle : ∀ {i g}, c.grantAt i = some g → g.isActive = false := by
      intro i g hg
      cases ha : g.isActive with
      | false => rfl
      | true => cases unchosen h hg ha
    refine ⟨fun k => ?_, ?_⟩
    · rw [exact.1 k, sum_slots_zero fun i => ?_]
      · exact Nat.zero_le _
      · cases hg : c.grantAt i with
        | none => exact loadFrom_none hg
        | some g => rw [loadFrom_some hg, loadOf_inactive (idle hg)]
    · rw [exact.2, sum_slots_zero fun i => ?_]
      · exact Nat.zero_le _
      · cases hg : c.grantAt i with
        | none => exact chargeFrom_none hg
        | some g => rw [chargeFrom_some hg, room_of_inactive (idle hg), Nat.mul_zero]
  · split at h
    · rename_i k hk
      have above : c.peakInForce < c.loadMap[k] := by simpa using List.find?_some hk
      rw [noLoad k h] at above
      cases above
    · rename_i hover
      refine ⟨fun k => ?_, ?_⟩
      · simpa using List.find?_eq_none.1 hover k (List.mem_finRange k)
      · split at h
        · rw [noCharge h]; exact Nat.zero_le _
        · rename_i le; exact Nat.le_of_not_lt le

/-! ## Every move -/

/-- Map and charge that fall or stay, under the same ceilings. -/
theorem within_of_le {c d : Controller} (h : WithinCeilings c) (kept : CeilingsAndRepackKept c d)
    (load : ∀ k : Segment, d.loadMap[k] ≤ c.loadMap[k]) (charge : d.totalCharge ≤ c.totalCharge) : WithinCeilings d := by
  obtain ⟨-, peak, chargeCeiling, -⟩ := kept
  exact ⟨fun k => by rw [peak]; exact (load k).trans (h.1 k), by rw [chargeCeiling]; exact charge.trans h.2⟩

theorem within_of_same {c d : Controller} (h : WithinCeilings c) (kept : CeilingsAndRepackKept c d)
    (load : d.loadMap = c.loadMap) (charge : d.totalCharge = c.totalCharge) : WithinCeilings d :=
  within_of_le h kept (fun k => by rw [load]) charge.le

theorem detach_load_le {c : Controller} {profiles : Vector Profile 16} (exact : AccountExact profiles c) (i : SlotIx) :
    (∀ k : Segment, (c.detach profiles i).loadMap[k] ≤ c.loadMap[k]) ∧ (c.detach profiles i).totalCharge ≤ c.totalCharge := by
  obtain ⟨load, charge⟩ := detach_account exact i
  exact ⟨fun k => by rw [← load k]; exact Nat.le_add_right _ _, by rw [← charge]; exact Nat.le_add_right _ _⟩

theorem activate_within {c : Controller} {profiles : Vector Profile 16} (h : WithinCeilings c) {i : SlotIx} {g : Grant}
    {s : Segment} {f : Nat} (fit : c.place profiles g.channel f = some s) : WithinCeilings (c.activate profiles i g s f) := by
  have fit := (firstFit_some fit).1
  refine ⟨fun k => ?_, ?_⟩
  · rw [activate_load, activate_peakInForce]; exact fits_within fit k (h.1 k)
  · rw [activate_totalCharge, activate_chargeInForce]; exact (fits_iff.1 fit).2

theorem Cleared.within {s : State} {ch : Channel} {c : Controller} (h : Cleared s ch c)
    (exact : AccountExact s.config.profiles s.ctl) (within : WithinCeilings s.ctl) : WithinCeilings c := by
  have kept := h.kept
  cases h with
  | free => exact within
  | @preempted j =>
    obtain ⟨hm, ht, -⟩ := preempt_account s.ctl s.config.profiles j
    obtain ⟨load, charge⟩ := detach_load_le exact j
    exact within_of_le within kept (fun k => by rw [hm]; exact load k) (by rw [ht]; exact charge)

theorem resize_grow_within {c : Controller} {profiles : Vector Profile 16} (h : WithinCeilings c) {i : SlotIx} {g : Grant}
    {start : Segment} {r f : Nat} (hg : c.grantAt i = some g) (hs : g.state = .active start r) (le : r ≤ f)
    (fit : fits c.loadMap c.totalCharge c.peakInForce c.chargeInForce (currentOf profiles g.channel)
      (segmentAfter start r) (f - r) = true) : WithinCeilings (c.resize profiles i f) := by
  refine ⟨fun k => ?_, ?_⟩
  · rw [resize_peakInForce]
    simp only [Controller.resize, hg, hs, if_pos le, enterRun_load, putGrant_loadMap]
    exact fits_within fit k (h.1 k)
  · rw [resize_chargeInForce]
    simp only [Controller.resize, hg, hs, if_pos le, enterRun_totalCharge, putGrant_totalCharge]
    exact (fits_iff.1 fit).2

theorem resize_shrink_within {c : Controller} {profiles : Vector Profile 16} (h : WithinCeilings c) {i : SlotIx} {g : Grant}
    {start : Segment} {r f : Nat} (hg : c.grantAt i = some g) (hs : g.state = .active start r) (le : f ≤ r) :
    WithinCeilings (c.resize profiles i f) := by
  refine within_of_le h (resize_kept _ _ _ _) (fun k => ?_) ?_
  · simp only [Controller.resize, hg, hs]
    split
    · rename_i ge
      obtain rfl := Nat.le_antisymm le ge
      rw [enterRun_load, putGrant_loadMap]
      simp [covers]
    · rw [leaveRun_load, putGrant_loadMap]; exact Nat.sub_le _ _
  · simp only [Controller.resize, hg, hs]
    split
    · rename_i ge
      obtain rfl := Nat.le_antisymm le ge
      rw [enterRun_totalCharge, putGrant_totalCharge, Nat.sub_self, Nat.mul_zero, Nat.add_zero]
    · rw [leaveRun_totalCharge, putGrant_totalCharge]; exact Nat.sub_le _ _

theorem visit_within {c : Controller} {profiles : Vector Profile 16} (h : WithinCeilings c) (i : SlotIx) :
    WithinCeilings (c.visit profiles i) := by
  rcases visit_cases profiles c i with e | ⟨g, hg, he, ⟨s, fit, e⟩ | ⟨-, e⟩⟩ <;> rw [e]
  · exact h
  · have hw := eligible_waits he
    have fit := (firstFit_some (place_of_placeUnlessTier3 fit)).1
    have hm : (c.detach profiles i).loadMap = c.loadMap := by simp only [detach_waits hg hw]
    have ht : (c.detach profiles i).totalCharge = c.totalCharge := by simp only [detach_waits hg hw]
    refine ⟨fun k => ?_, ?_⟩
    · rw [Controller.admitGrant, activate_load, activate_peakInForce, detach_peakInForce, hm]
      exact fits_within fit k (h.1 k)
    · rw [Controller.admitGrant, activate_totalCharge, activate_chargeInForce, detach_chargeInForce, ht]
      exact (fits_iff.1 fit).2
  · exact within_of_same h (putGrant_kept _ _ _) (putGrant_loadMap _ _ _) (putGrant_totalCharge _ _ _)

/-- Without grants the exact account is zero, and lies within any ceilings. -/
theorem within_of_empty {c d : Controller} {profiles : Vector Profile 16} (exact : AccountExact profiles c)
    (none : ∀ i, c.grantAt i = none) (load : d.loadMap = c.loadMap) (charge : d.totalCharge = c.totalCharge) :
    WithinCeilings d := by
  refine ⟨fun k => ?_, ?_⟩
  · rw [load, exact.1 k, sum_slots_zero fun i => loadFrom_none (none i)]; exact Nat.zero_le _
  · rw [charge, exact.2, sum_slots_zero fun i => chargeFrom_none (none i)]; exact Nat.zero_le _

theorem createWaiting_within {c : Controller} {profiles : Vector Profile 16} (h : WithinCeilings c) (a : GrantArgs)
    (who : Client) (i : SlotIx) (state : GrantState) : WithinCeilings (c.createWaiting profiles a who i state) :=
  within_of_same h (createWaiting_kept _ _ _ _ _ _) (by rw [Controller.createWaiting, enterWaiting_loadMap, putGrant_loadMap])
    (by rw [Controller.createWaiting, enterWaiting_totalCharge, putGrant_totalCharge])

theorem Move.within {frees : Prop} {s t : State} (m : Move frees s t) (empty : ConfigEmpty s) (lists : ListsExact s.ctl)
    (exact : AccountExact s.config.profiles s.ctl) (loaded : CeilingsLoaded s) (descend : TiersDescend s)
    (sound : PlanSound s) (h : WithinCeilings s.ctl) : WithinCeilings t.ctl := by
  cases m with
  | quiet _ ctl =>
    refine ⟨fun k => ?_, ?_⟩
    · rw [same_loadMap ctl, same_peakInForce ctl]; exact h.1 k
    · rw [same_totalCharge ctl, same_chargeInForce ctl]; exact h.2
  | createActive allowed cleared fit =>
    have placed := place_of_placeUnlessTier3 fit
    exact activate_within (cleared.within exact h) placed
  | createDeferred allowed cleared => exact createWaiting_within (cleared.within exact h) _ _ _ _
  | createQueued => exact createWaiting_within h _ _ _ _
  | rewrite => exact within_of_same h (putGrant_kept _ _ _) (putGrant_loadMap _ _ _) (putGrant_totalCharge _ _ _)
  | shrink here active le => exact resize_shrink_within h here active le
  | grow here active le _ _ fit => exact resize_grow_within h here active le fit
  | stepRamps =>
    exact within_of_same h (stepRamps_kept _) (by simp only [withCtl_ctl, Controller.stepRamps])
      (by simp only [withCtl_ctl, Controller.stepRamps])
  | free _ i =>
    obtain ⟨load, charge⟩ := detach_load_le exact i
    exact within_of_le h (free_kept _ _ _) (fun k => by rw [withCtl_ctl, Controller.free, emptySlot_loadMap]; exact load k)
      (by rw [withCtl_ctl, Controller.free, emptySlot_totalCharge]; exact charge)
  | retire i reason =>
    obtain ⟨load, charge⟩ := detach_load_le exact i
    cases hg : s.ctl.grantAt i with
    | none => rw [withCtl_ctl, retire_of_free _ hg]; exact h
    | some g =>
      refine within_of_le h (retire_kept _ _ _ _) (fun k => ?_) ?_
      · simp only [withCtl_ctl, Controller.retire, hg, putGrant_loadMap]; exact load k
      · simp only [withCtl_ctl, Controller.retire, hg, putGrant_totalCharge]; exact charge
  | visit i => exact visit_within h i
  | endRepack => exact h
  | startGrant => exact h
  | startAdjust => exact h
  | planReady => exact h
  | @apply held plan due hheld hplan =>
    obtain ⟨load, charge⟩ := applied_within sound due hheld hplan
    have eq := appliedController_eq s.ctl s.config.profiles held plan
    obtain ⟨-, -, peak, ceiling, -⟩ := movedAndMade_kept s.ctl held plan
    rw [dropPlan_ctl, withCtl_ctl, eq]
    refine ⟨fun k => ?_, ?_⟩
    · rw [withoutRepack_loadMap, withoutRepack_peakInForce, rebuild_peakInForce, peak]
      simpa only [Controller.rebuild, Fin.getElem_fin, Vector.getElem_ofFn] using load k
    · rw [withoutRepack_totalCharge, withoutRepack_chargeInForce, rebuild_chargeInForce, ceiling]
      simpa only [Controller.rebuild] using charge
  | @tierDrop tier =>
    have loadedLists : ListsExact (s.ctl.loadTier s.config.tiers tier) := listsExact_of_grants lists (loadTier_waiting _ _ _)
      (loadTier_admission _ _ _) fun j => grantAt_of_table (loadTier_table _ _ _) j
    have loadedExact : AccountExact s.config.profiles (s.ctl.loadTier s.config.tiers tier) :=
      exact.of_grants (loadTier_loadMap _ _ _) (loadTier_totalCharge _ _ _) fun j => grantAt_of_table (loadTier_table _ _ _) j
    exact within_of_nextShed (shedAll_listsExact loadedLists _) (shedAll_accountExact loadedExact) (shedAll_nextShed _ _)
  | @tierLoad tier when_ =>
    cases hm : s.config.mode with
    | config => exact within_of_empty exact (empty hm).1 (loadTier_loadMap _ _ _) (loadTier_totalCharge _ _ _)
    | run =>
      rcases when_ with config | less
      · rw [hm] at config; cases config
      · obtain ⟨peak, charge⟩ := tierCeilings_mono descend hm less.le
        refine ⟨fun k => ?_, ?_⟩
        · rw [withCtl_ctl, loadTier_loadMap]
          exact (h.1 k).trans (loaded.1.trans_le peak)
        · rw [withCtl_ctl, loadTier_totalCharge]
          exact h.2.trans (loaded.2.trans_le charge)
  | configure => exact h
  | setTiers mode table => exact within_of_empty exact (empty mode).1 (loadTier_loadMap _ _ _) (loadTier_totalCharge _ _ _)
  | start => exact h
  | stop =>
    have freed := freeAll_accountExact s.config.profiles s.ctl
    exact within_of_empty freed (freeAll_grantAt _) rfl rfl
  | clear =>
    have freed := freeAll_accountExact s.config.profiles s.ctl
    exact within_of_empty freed (freeAll_grantAt _) (loadTier_loadMap _ _ _) (loadTier_totalCharge _ _ _)

theorem Move.ceilingsHeld {frees : Prop} {s t : State} (m : Move frees s t) (h : CeilingsHeld s) : CeilingsHeld t := by
  obtain ⟨room, lists, loaded, descend, sound, within⟩ := h
  have empty := room.1
  exact ⟨m.roomExact room, m.listsExact lists, m.ceilingsLoaded loaded, m.tiersDescend descend,
    m.planSound empty loaded descend sound, m.within empty lists room.2.2 loaded descend sound within⟩

theorem markTaken_ceilingsHeld {s : State} (h : CeilingsHeld s) (p : Port) (r : Request) : CeilingsHeld (s.markTaken p r) := by
  obtain ⟨room, rest⟩ := h
  exact ⟨markTaken_roomExact room p r, by
    simpa only [CeilingsLoaded, TiersDescend, PlanSound, markTaken_config, markTaken_ctl, markTaken_planner] using rest⟩

theorem reset_ceilingsHeld : CeilingsHeld State.reset :=
  ⟨reset_roomExact, reset_listsExact, ⟨rfl, rfl⟩, fun run => (by cases run),
    fun hf => Bool.noConfusion (reset_inFlight.symm.trans hf), within_of_empty reset_mapExact reset_grantAt rfl rfl⟩

/-- Settles O9: every move keeps the ceilings with their companions. -/
theorem ceilingsKeptByEveryStep : Obligations.CeilingsKeptByEveryStep := fun _ _ hs h =>
  step_keeps (P := CeilingsHeld) (fun _ _ h => h) (fun _ => reset_ceilingsHeld)
    (fun _ p r _ h => markTaken_ceilingsHeld h p r) (fun _ _ _ m h => m.ceilingsHeld h) hs h

end Sys2Proof.Proofs
end

section
/-! SUPPORT. The life of a slot under every command, and what every command leaves of the queue and the arbiter's preference. -/

namespace Sys2Proof.Proofs

open Sys2Proof Sys2Proof.Machine Sys2Proof.Safety Sys2Proof.Laws

/-! ## The life of a slot (R15) -/

/-- A slot lives on, or has become FREE with the next generation; where slots are freed none is filled. -/
def SlotLives (frees : Prop) (s t : State) (i : SlotIx) : Prop :=
  (t.ctl.table[i].generation = s.ctl.table[i].generation ∧ (s.ctl.grantAt i ≠ none → t.ctl.grantAt i ≠ none) ∧
    (frees → s.ctl.grantAt i = none → t.ctl.grantAt i = none)) ∨
  (frees ∧ s.ctl.grantAt i ≠ none ∧ t.ctl.grantAt i = none ∧
    t.ctl.table[i].generation = s.ctl.table[i].generation + 1)

theorem SlotLives.refl (frees : Prop) (s : State) (i : SlotIx) : SlotLives frees s s i := .inl ⟨rfl, id, fun _ => id⟩

theorem SlotLives.trans {frees : Prop} {s t u : State} {i : SlotIx} (h : SlotLives frees s t i)
    (h' : SlotLives frees t u i) : SlotLives frees s u i := by
  rcases h with ⟨gen, stays, none⟩ | ⟨hf, here, gone, gen⟩ <;> rcases h' with ⟨gen', stays', none'⟩ | ⟨hf', here', gone', gen'⟩
  · exact .inl ⟨gen'.trans gen, stays' ∘ stays, fun hf => none' hf ∘ none hf⟩
  · exact .inr ⟨hf', fun e => here' (none hf' e), gone', by rw [gen', gen]⟩
  · exact .inr ⟨hf, here, none' hf gone, gen'.trans gen⟩
  · exact absurd gone here'

/-- A move that keeps the generation and neither fills nor empties the slot. -/
theorem SlotLives.of_same {frees : Prop} {s t : State} {i : SlotIx}
    (gen : t.ctl.table[i].generation = s.ctl.table[i].generation)
    (same : t.ctl.grantAt i = none ↔ s.ctl.grantAt i = none) : SlotLives frees s t i :=
  .inl ⟨gen, fun h e => h (same.1 e), fun _ => same.2⟩

section
variable {c : Controller} {profiles : Vector Profile 16} {i j : SlotIx}

/-- Writing a record where one stands fills no slot. -/
theorem putGrant_none_iff {g : Grant} (h : c.grantAt i = some g) (g' : Grant) :
    (c.putGrant i g').grantAt j = none ↔ c.grantAt j = none := by
  by_cases e : j = i
  · subst e; rw [putGrant_grantAt, h]; exact ⟨nofun, nofun⟩
  · rw [putGrant_grantAt_of_ne _ _ e]
theorem resize_none_iff (f : Nat) : (c.resize profiles i f).grantAt j = none ↔ c.grantAt j = none := by
  by_cases e : j = i
  · subst e
    cases ha : (c.grantAt j).any Grant.isActive with
    | false => rw [resize_of_inactive profiles ha]
    | true =>
      obtain ⟨g, hg, hact⟩ := (Option.any_eq_true _ _).1 ha
      obtain ⟨start, r, hs⟩ := isActive_iff.1 hact
      rw [resize_grantAt _ hg hs, hg]; exact ⟨nofun, nofun⟩
  · rw [resize_grantAt_of_ne _ _ _ e]
theorem retire_none_iff (r : CloseReason) : (c.retire profiles i r).grantAt j = none ↔ c.grantAt j = none := by
  cases hg : c.grantAt i with
  | none => rw [retire_of_free _ hg]
  | some g =>
    by_cases e : j = i
    · subst e; rw [retire_grantAt _ hg, hg]; exact ⟨nofun, nofun⟩
    · rw [retire_grantAt_of_ne _ _ _ e]
theorem shed_none_iff : (c.shed profiles i).grantAt j = none ↔ c.grantAt j = none := by
  cases hg : c.grantAt i with
  | none => rw [shed_of_free _ hg]
  | some g =>
    by_cases e : j = i
    · subst e; rw [shed_grantAt _ hg, hg]; exact ⟨nofun, nofun⟩
    · rw [shed_grantAt_of_ne _ _ e]
theorem preempt_none_iff : (c.preempt profiles i).grantAt j = none ↔ c.grantAt j = none := by
  cases hg : c.grantAt i with
  | none => simp only [Controller.preempt, hg]
  | some g =>
    by_cases e : j = i
    · subst e; rw [preempt_grantAt _ hg, hg]; exact ⟨nofun, nofun⟩
    · rw [preempt_grantAt_of_ne _ _ e]
theorem visit_none_iff : (c.visit profiles i).grantAt j = none ↔ c.grantAt j = none := by
  rcases visit_cases profiles c i with e | ⟨g, hg, -, ⟨s, -, e⟩ | ⟨-, e⟩⟩ <;> rw [e]
  · by_cases e : j = i
    · subst e; rw [admitGrant_grantAt, hg]; exact ⟨nofun, nofun⟩
    · rw [admitGrant_grantAt_of_ne _ _ _ _ e]
  · exact putGrant_none_iff hg _
theorem shedAll_none_iff : (c.shedAll profiles).grantAt j = none ↔ c.grantAt j = none :=
  shedAll_induct (motive := fun d => d.grantAt j = none ↔ c.grantAt j = none) .rfl fun _ _ _ hd => shed_none_iff.trans hd

theorem movedAndMade_ne_none {held : HeldRequest} {plan : List Proposal} (h : c.grantAt j ≠ none) :
    (movedAndMade c held plan).grantAt j ≠ none := by
  have moved : (plan.foldl (moveOne held) c).grantAt j ≠ none :=
    moved_induct (motive := fun d => d.grantAt j ≠ none) h fun d q _ hd => by
      rcases moveOne_record held d q with hm | ⟨i, g, start, r, -, hg, -, hm⟩ <;> rw [hm]
      · exact hd
      · exact fun e => hd ((putGrant_none_iff hg _).1 e)
  unfold movedAndMade
  cases hc : createdBy c held plan with
  | none => exact moved
  | some made =>
    obtain ⟨i, g⟩ := made
    show ((plan.foldl (moveOne held) c).putGrant i g).grantAt j ≠ none
    by_cases e : j = i
    · subst e; rw [putGrant_grantAt]; exact Option.some_ne_none g
    · rw [putGrant_grantAt_of_ne _ _ e]; exact moved

end

theorem Cleared.none_iff {s : State} {ch : Channel} {c : Controller} (h : Cleared s ch c) (j : SlotIx) :
    c.grantAt j = none ↔ s.ctl.grantAt j = none := by
  cases h with
  | free => exact .rfl
  | preempted => exact preempt_none_iff

/-- A creation fills a slot that was FREE, where no slot is freed. -/
theorem SlotLives.created {frees : Prop} {s : State} {d : Controller} {i j : SlotIx} (creates : ¬ frees)
    (gen : d.table[j].generation = s.ctl.table[j].generation) (here : d.grantAt i ≠ none)
    (others : j ≠ i → (d.grantAt j = none ↔ s.ctl.grantAt j = none)) : SlotLives frees s (s.withCtl d) j := by
  refine .inl ⟨gen, fun h e => ?_, fun hf => absurd hf creates⟩
  by_cases ji : j = i
  · subst ji; exact here e
  · exact h ((others ji).1 e)

theorem Move.slotLives {frees : Prop} {s t : State} (m : Move frees s t) (j : SlotIx) : SlotLives frees s t j := by
  cases m with
  | quiet _ ctl => exact .of_same (generation_of_table (same_table ctl) j) (by rw [same_grantAt ctl])
  | @createActive _ _ i _ _ _ cleared _ creates =>
    refine .created (i := i) creates ((activate_generation _ _ _ _ _ _).trans (cleared.generation j)) ?_ fun e => ?_
    · rw [createActive_grantAt]; exact Option.some_ne_none _
    · rw [createActive_grantAt_of_ne _ _ _ _ _ e]; exact cleared.none_iff j
  | @createDeferred _ _ i _ _ cleared creates =>
    refine .created (i := i) creates ((createWaiting_generation _ _ _ _ _ _).trans (cleared.generation j)) ?_ fun e => ?_
    · rw [createWaiting_grantAt]; exact Option.some_ne_none _
    · rw [createWaiting_grantAt_of_ne _ _ _ _ _ e]; exact cleared.none_iff j
  | @createQueued _ _ i _ creates =>
    refine .created (i := i) creates (createWaiting_generation _ _ _ _ _ _) ?_ fun e => ?_
    · rw [createWaiting_grantAt]; exact Option.some_ne_none _
    · rw [createWaiting_grantAt_of_ne _ _ _ _ _ e]
  | rewrite here => exact .of_same (putGrant_generation _ _ _ _) (putGrant_none_iff here _)
  | shrink => exact .of_same (resize_generation _ _ _ _) (resize_none_iff _)
  | grow => exact .of_same (resize_generation _ _ _ _) (resize_none_iff _)
  | stepRamps =>
    exact .of_same (stepRamps_generation _ _) (by rw [withCtl_ctl, stepRamps_grantAt, Option.map_eq_none_iff])
  | free allowed i here =>
    by_cases e : j = i
    · subst e
      exact .inr ⟨allowed, here, free_grantAt _ _ _, by rw [withCtl_ctl, free_slot]⟩
    · exact .of_same (free_generation_of_ne _ e) (by rw [withCtl_ctl, free_grantAt_of_ne _ _ e])
  | retire => exact .of_same (retire_generation _ _ _ _) (retire_none_iff _)
  | visit i => exact .of_same (visit_generation _ _ i j) visit_none_iff
  | @apply held plan _ _ _ creates =>
    refine .inl ⟨?_, fun h => ?_, fun hf => absurd hf creates⟩
    · rw [dropPlan_ctl, withCtl_ctl, appliedController_eq, withoutRepack_table, rebuild_table]
      exact movedAndMade_generation held s.ctl plan j
    · rw [dropPlan_ctl, withCtl_ctl, applied_grantAt]
      exact movedAndMade_ne_none h
  | @tierDrop tier =>
    have loaded := loadTier_table s.ctl s.config.tiers tier
    refine .of_same ((shedAll_generation _ _).trans (generation_of_table loaded j)) ?_
    rw [← grantAt_of_table loaded]
    exact shedAll_none_iff
  | tierLoad =>
    exact .of_same (generation_of_table (loadTier_table _ _ _) j) (by rw [withCtl_ctl, grantAt_of_table (loadTier_table _ _ _)])
  | setTiers =>
    exact .of_same (generation_of_table (loadTier_table _ _ _) j)
      (by rw [State.setTiers, grantAt_of_table (loadTier_table _ _ _)])
  | stop allowed =>
    exact freeAll_lives allowed rfl
  | clear allowed =>
    exact freeAll_lives allowed (loadTier_table _ _ _)
  | endRepack => exact .of_same rfl .rfl
  | startGrant => exact .of_same rfl .rfl
  | startAdjust => exact .of_same rfl .rfl
  | planReady => exact .of_same rfl .rfl
  | configure => exact .of_same rfl .rfl
  | start => exact .of_same rfl .rfl
where
  freeAll_lives {frees : Prop} {s t : State} {j : SlotIx} (allowed : frees) (ht : t.ctl.table = s.ctl.freeAll.table) :
      SlotLives frees s t j := by
    have slot : t.ctl.table[j] = s.ctl.table[j].freed := by
      rw [ht]; simp only [Controller.freeAll, Fin.getElem_fin, Vector.getElem_ofFn]
    unfold SlotLives
    simp only [grantAt_def, slot, Slot.freed]
    cases hg : s.ctl.table[j].grant with
    | none => exact .inl ⟨by simp, fun h => absurd rfl h, fun _ _ => by simpa using hg⟩
    | some g => exact .inr ⟨allowed, Option.some_ne_none g, by simp, by simp⟩

theorem moves_slotLives {frees : Prop} {s t : State} (h : Moves frees s t) (i : SlotIx) : SlotLives frees s t i :=
  h.keep (P := fun u => SlotLives frees s u i) (fun _ _ m hu => hu.trans (m.slotLives i)) (.refl _ _ _)

theorem held_ctl (s : State) : s.held.ctl = State.reset.ctl := rfl

/-- Settles O11: a slot's life under the moves of a command; the hard reset sets every generation to 0. -/
theorem generationsAdvanceOnFreeing : Obligations.GenerationsAdvanceOnFreeing := by
  intro c s t i h
  by_cases hc : c = .hardReset
  · subst hc
    have ht : s.held = t := by injection h
    subst ht
    exact .inr (.inr ⟨rfl, by simp [held_ctl, State.reset, Controller.reset], reset_grantAt i⟩)
  · have lives : SlotLives (Frees c) s t i := by
      have hr := exec_reaches c s hc
      rw [h] at hr
      cases hr with
      | moved moves => exact moves_slotLives moves i
      | served _ _ moves => simpa only [SlotLives, markTaken_ctl] using moves_slotLives moves i
    rcases lives with ⟨gen, stays, -⟩ | ⟨hf, here, gone, gen⟩
    · exact .inl ⟨gen, stays⟩
    · exact .inr (.inl ⟨here, gone, gen, hf⟩)

/-! ## The queue and the preference -/

/-- The commands that wait and the arbiter's preference are the same. -/
def QueueKept (s t : State) : Prop := t.pending = s.pending ∧ t.preferred = s.preferred

theorem Move.queueKept {frees : Prop} {s t : State} (m : Move frees s t) : QueueKept s t := by
  cases m with
  | quiet _ _ _ pending preferred => exact ⟨pending, preferred⟩
  | setTiers => exact ⟨rfl, rfl⟩
  | _ => simp only [QueueKept, withCtl_pending, withCtl_preferred, dropPlan_pending, dropPlan_preferred, endRepack_pending,
      endRepack_preferred, startRepack_pending, startRepack_preferred, and_self]

theorem moves_queueKept {frees : Prop} {s t : State} (h : Moves frees s t) : QueueKept s t :=
  h.keep (P := QueueKept s) (fun _ _ m hu => ⟨m.queueKept.1.trans hu.1, m.queueKept.2.trans hu.2⟩) ⟨rfl, rfl⟩

/-- Every command answers a next state, and leaves the queue alone. -/
theorem exec_next (c : Instr) (s : State) : ∃ t : State, exec c s = .next t ∧ t.pending = s.pending := by
  by_cases hc : c = .hardReset
  · subst hc; exact ⟨s.held, rfl, rfl⟩
  · have hr := exec_reaches c s hc
    cases ho : exec c s with
    | next t =>
      rw [ho] at hr
      refine ⟨t, rfl, ?_⟩
      cases hr with
      | moved moves => exact (moves_queueKept moves).1
      | served _ _ moves => exact (moves_queueKept moves).1.trans (markTaken_pending _ _ _)
    | fault r => rw [ho] at hr; cases hr
    | refused r => rw [ho] at hr; cases hr

/-- Settles O1: step unfolded at an empty and at a non-empty queue, and every command's next state. -/
theorem stepTakesFrontCommand : Obligations.StepTakesFrontCommand :=
  ⟨fun c rest s h => by simp only [step, h], fun s h => by simp only [step, h], exec_next⟩

end Sys2Proof.Proofs
end

section
/-! SUPPORT. Notice summaries and ALERT lines through every command, and how a request taken ends: it is answered on its port, or it
has started a repack (R25, R193, R195, R196). -/

namespace Sys2Proof.Proofs

open Sys2Proof Sys2Proof.Machine Sys2Proof.Safety Sys2Proof.Laws

/-! ## What leaves the summaries and the lines alone -/

/-- Notices, summaries and ALERT lines are the same. -/
structure SameAlerts (s t : State) : Prop where
  notices : ∀ p, t.ctl.noticePending p = s.ctl.noticePending p
  summaryA : t.ctl.summaryA = s.ctl.summaryA
  summaryB : t.ctl.summaryB = s.ctl.summaryB
  lineA : t.portA.alertLow = s.portA.alertLow
  lineB : t.portB.alertLow = s.portB.alertLow

theorem SameAlerts.exact {s t : State} (h : SameAlerts s t) (hs : AlertsExact s) : AlertsExact t := by
  unfold AlertsExact at *
  rwa [h.notices, h.notices, h.summaryA, h.summaryB, h.lineA, h.lineB]

theorem SameAlerts.trans {s t u : State} (h : SameAlerts s t) (h' : SameAlerts t u) : SameAlerts s u :=
  ⟨fun p => (h'.notices p).trans (h.notices p), h'.summaryA.trans h.summaryA, h'.summaryB.trans h.summaryB,
    h'.lineA.trans h.lineA, h'.lineB.trans h.lineB⟩

theorem SameAlerts.refl (s : State) : SameAlerts s s := ⟨fun _ => rfl, rfl, rfl, rfl, rfl⟩

/-- The controller and both ALERT lines are the same. -/
theorem SameAlerts.of_ctl {s t : State} (hc : t.ctl = s.ctl) (ha : t.portA.alertLow = s.portA.alertLow)
    (hb : t.portB.alertLow = s.portB.alertLow) : SameAlerts s t :=
  ⟨fun p => by rw [hc], by rw [hc], by rw [hc], ha, hb⟩

/-- Another controller with the same notices and summaries. -/
theorem SameAlerts.of_notices {s : State} {c : Controller} (notices : ∀ p, c.noticePending p = s.ctl.noticePending p)
    (ha : c.summaryA = s.ctl.summaryA) (hb : c.summaryB = s.ctl.summaryB) : SameAlerts s (s.withCtl c) :=
  ⟨notices, ha, hb, rfl, rfl⟩

/-- What the notice summaries read of a grant. -/
def ownedNotices (g : Grant) : Client × Notices := (g.owner, g.notices)

theorem noticePending_congr {c d : Controller} (h : ∀ i, (d.grantAt i).map ownedNotices = (c.grantAt i).map ownedNotices)
    (p : Port) : d.noticePending p = c.noticePending p := by
  have read : ∀ e : Controller, e.noticePending p =
      allSlots.any fun i => ((e.grantAt i).map ownedNotices).any fun x => clientPort x.1 == p && x.2.pending := by
    intro e
    simp only [Controller.noticePending, Option.any_map]
    rfl
  simp only [read, h]

theorem putGrant_noticePending {c : Controller} {i : SlotIx} {g g' : Grant} (h : c.grantAt i = some g)
    (same : ownedNotices g' = ownedNotices g) (p : Port) : (c.putGrant i g').noticePending p = c.noticePending p := by
  refine noticePending_congr (fun j => ?_) p
  by_cases e : j = i
  · subst e; rw [putGrant_grantAt, h, Option.map_some, Option.map_some, same]
  · rw [putGrant_grantAt_of_ne _ _ e]

theorem resize_noticePending (c : Controller) (profiles : Vector Profile 16) (i : SlotIx) (f : Nat) (p : Port) :
    (c.resize profiles i f).noticePending p = c.noticePending p := by
  unfold Controller.resize
  split
  · rename_i g hg
    split
    · rename_i start _ _
      have kept := putGrant_noticePending (g' := { g with state := .active start f }) hg rfl p
      dsimp only
      split
      · exact (noticePending_of_table (enterRun_table _ _ _ _) p).trans kept
      · exact (noticePending_of_table (leaveRun_table _ _ _ _) p).trans kept
    · rfl
  · rfl

theorem stepRamps_noticePending (c : Controller) (p : Port) : c.stepRamps.noticePending p = c.noticePending p := by
  refine noticePending_congr (fun i => ?_) p
  rw [stepRamps_grantAt, Option.map_map]
  congr 1
  funext g
  simp only [Function.comp, Grant.stepped]
  split <;> rfl

theorem SameAlerts.putGrant {s : State} {i : SlotIx} {g g' : Grant} (h : s.ctl.grantAt i = some g)
    (same : ownedNotices g' = ownedNotices g) : SameAlerts s (s.withCtl (s.ctl.putGrant i g')) :=
  .of_notices (putGrant_noticePending h same) (putGrant_summaryA _ _ _) (putGrant_summaryB _ _ _)

theorem SameAlerts.loadTier (s : State) (table : TierTable) (tier : Tier) :
    SameAlerts s (s.withCtl (s.ctl.loadTier table tier)) :=
  .of_notices (noticePending_of_table (loadTier_table _ _ _)) (loadTier_summaryA _ _ _) (loadTier_summaryB _ _ _)

/-! ## What makes them exact -/

theorem refreshAlerts_exact (s : State) : AlertsExact s.refreshAlerts := ⟨rfl, rfl, rfl, rfl⟩

theorem settle_exact (s : State) (b : Bool) : AlertsExact (s.settle b) := refreshAlerts_exact _

theorem writeResponse_sameAlerts (s : State) (p : Port) (r : Response) : SameAlerts s (s.writeResponse p r) := by
  cases p <;> exact .of_ctl rfl rfl rfl

theorem answer_sameAlerts (t : Taken) (r : Result) (pl : List Byte) (s : State) : SameAlerts s (answer t r pl s) :=
  writeResponse_sameAlerts _ _ _

theorem answerHeld_sameAlerts (s : State) (h : HeldRequest) (r : Result) (pl : List Byte) :
    SameAlerts s (s.answerHeld h r pl) := writeResponse_sameAlerts _ _ _

theorem markTaken_sameAlerts (s : State) (p : Port) (r : Request) : SameAlerts s (s.markTaken p r) := by
  cases p <;> exact .of_ctl rfl rfl rfl

theorem startRepack_sameAlerts (s : State) (h : HeldRequest) (input : List PlanEntry) :
    SameAlerts s (s.startRepack h input) := ⟨fun _ => rfl, rfl, rfl, rfl, rfl⟩

theorem reset_alertsExact : AlertsExact State.reset := by
  have none_pending : ∀ p, State.reset.ctl.noticePending p = false := fun p => by
    simp [Controller.noticePending, reset_grantAt]
  unfold AlertsExact
  rw [none_pending, none_pending]
  exact ⟨rfl, rfl, rfl, rfl⟩

/-! ## How a request's rule ends -/

/-- The rule of a request taken ends with an answer to it, before which the summaries and lines are exact if they were; or, where
`starts` allows it, with the start of a repack. -/
inductive Ends (starts : Prop) (t : Taken) (s : State) : State → Prop
  | answered {v : State} (r : Result) (pl : List Byte) (alerts : AlertsExact s → AlertsExact v) :
      Ends starts t s (answer t r pl v)
  | started (allowed : starts) (held : HeldRequest) (input : List PlanEntry) : Ends starts t s (s.startRepack held input)

section
variable {starts : Prop} {t : Taken} {s : State}

/-- Answered at once. -/
theorem Ends.refused (r : Result) (pl : List Byte) : Ends starts t s (answer t r pl s) := .answered r pl id

/-- Answered after the end of a controller event. -/
theorem Ends.settled (r : Result) (pl : List Byte) (v : State) (b : Bool) : Ends starts t s (answer t r pl (v.settle b)) :=
  .answered r pl fun _ => settle_exact v b

theorem Ends.same {v : State} (r : Result) (pl : List Byte) (h : SameAlerts s v) : Ends starts t s (answer t r pl v) :=
  .answered r pl h.exact

theorem Ends.alerts {v : State} (h : Ends starts t s v) (hs : AlertsExact s) : AlertsExact v := by
  cases h with
  | answered r pl alerts => exact (answer_sameAlerts t r pl _).exact (alerts hs)
  | started _ held input => exact (startRepack_sameAlerts s held input).exact hs

theorem withHandle_ends {handle : Option Nat} {body : Nat → SlotIx → Grant → State}
    (h : ∀ n i g, s.ctl.lookup n = some (i, g) → Ends starts t s (body n i g)) :
    Ends starts t s (withHandle handle t body s) := by
  unfold withHandle
  split
  · exact .refused _ _
  · split
    · exact .refused _ _
    · split
      · exact .refused _ _
      · rename_i n _ i g hl; exact h n i g hl

theorem ownerOnly_ends {body : State} {g : Grant} (h : Ends starts t s body) : Ends starts t s (ownerOnly t g body s) := by
  unfold ownerOnly
  split
  · exact h
  · exact .refused _ _

theorem refuseClosed_ends {body : State} {g : Grant} (h : Ends starts t s body) :
    Ends starts t s (refuseClosed t g body s) := by
  unfold refuseClosed
  split
  · exact .refused _ _
  · exact h

/-! ## GRANT and ADJUST -/

theorem answerCreated_ends (r : Result) (i : SlotIx) (v : State) (b : Bool) :
    Ends starts t s (answerCreated t r i (v.settle b)) := by
  unfold answerCreated; split <;> exact .settled _ _ _ _

theorem answerAdjusted_ends {v : State} (i : SlotIx) (h : AlertsExact s → AlertsExact v) :
    Ends starts t s (answerAdjusted t i v) := by
  unfold answerAdjusted; split <;> exact .answered _ _ h

theorem grantHeldChannel_ends (a : GrantArgs) (i j : SlotIx) : Ends starts t s (grantHeldChannel a t i j s) := by
  unfold grantHeldChannel
  split
  · unfold grantPreempting
    dsimp only
    split
    · exact answerCreated_ends _ _ _ _
    · split
      · exact answerCreated_ends _ _ _ _
      · exact .refused _ _
  · split
    · exact answerCreated_ends _ _ _ _
    · exact .refused _ _

theorem grantWaiting_ends (a : GrantArgs) (i : SlotIx) (refusal : NoRoom) :
    Ends starts t s (grantWaiting a t i refusal s) := by
  unfold grantWaiting
  split
  · exact answerCreated_ends _ _ _ _
  · exact .refused _ _

theorem grantFreeChannel_ends (allowed : starts) (a : GrantArgs) (i : SlotIx) :
    Ends starts t s (grantFreeChannel a t i s) := by
  unfold grantFreeChannel
  dsimp only
  split
  · exact grantWaiting_ends _ _ _
  · split
    · exact answerCreated_ends _ _ _ _
    · split
      · exact .started allowed _ _
      · exact grantWaiting_ends _ _ _

theorem grantEvent_ends (allowed : starts) (payload : List Byte) (t : Taken) (s : State) :
    Ends starts t s (grantEvent payload t s) := by
  unfold grantEvent
  split
  · exact .refused _ _
  · split
    · exact .refused _ _
    · split
      · exact .refused _ _
      · exact .refused _ _
      · split
        · exact grantHeldChannel_ends _ _ _
        · exact grantFreeChannel_ends allowed _ _

theorem retarget_notices (a : AdjustArgs) (profile : Profile) (g : Grant) :
    ownedNotices (retarget a profile g) = ownedNotices g := rfl

theorem adjustWithin_ends {i : SlotIx} {g : Grant} (hg : s.ctl.grantAt i = some g) (a : AdjustArgs) (r : Nat) :
    Ends starts t s (adjustWithin a t i g r s) := by
  unfold adjustWithin
  dsimp only
  split
  · exact answerAdjusted_ends _ fun _ => settle_exact _ _
  · exact answerAdjusted_ends _ (SameAlerts.putGrant hg (retarget_notices a _ g)).exact

theorem adjustGrow_ends (allowed : starts) {i : SlotIx} {g : Grant} (hg : s.ctl.grantAt i = some g) (a : AdjustArgs)
    (start : Segment) (r : Nat) : Ends starts t s (adjustGrow a t i g start r s) := by
  unfold adjustGrow
  dsimp only
  split
  · exact .refused _ _
  · split
    · refine answerAdjusted_ends _ (SameAlerts.of_notices (fun p => ?_) ?_ ?_).exact
      · exact (resize_noticePending _ _ _ _ _).trans (putGrant_noticePending hg (retarget_notices a _ g) p)
      · exact (resize_summaryA _ _ _ _).trans (putGrant_summaryA _ _ _)
      · exact (resize_summaryB _ _ _ _).trans (putGrant_summaryB _ _ _)
    · split
      · exact .started allowed _ _
      · exact .refused _ _

theorem adjustState_ends (allowed : starts) {i : SlotIx} {g : Grant} (hg : s.ctl.grantAt i = some g) (a : AdjustArgs) :
    Ends starts t s (adjustState a t i g s) := by
  unfold adjustState
  split
  · split
    · exact adjustWithin_ends hg a _
    · exact adjustGrow_ends allowed hg a _ _
  · exact answerAdjusted_ends _ (SameAlerts.putGrant hg (retarget_notices a _ g)).exact

theorem adjustEvent_ends (allowed : starts) (payload : List Byte) (t : Taken) (s : State) :
    Ends starts t s (adjustEvent payload t s) := by
  refine withHandle_ends fun n i g hl => ownerOnly_ends (refuseClosed_ends ?_)
  split
  · exact .refused _ _
  · split
    · exact .refused _ _
    · exact adjustState_ends allowed (lookup_grantAt hl) _

/-! ## The other requests -/

theorem renewed_notices (g : Grant) : ownedNotices (renewed g) = ownedNotices g := by unfold renewed; split <;> rfl

theorem renewEvent_ends (payload : List Byte) (t : Taken) (s : State) : Ends starts t s (renewEvent payload t s) :=
  withHandle_ends fun _ _ g hl => ownerOnly_ends (refuseClosed_ends
    (.same _ _ (SameAlerts.putGrant (lookup_grantAt hl) (renewed_notices g))))

theorem releaseEvent_ends (payload : List Byte) (t : Taken) (s : State) : Ends starts t s (releaseEvent payload t s) :=
  withHandle_ends fun _ _ _ _ => ownerOnly_ends (.settled _ _ _ _)

theorem ackEvent_ends (payload : List Byte) (t : Taken) (s : State) : Ends starts t s (ackEvent payload t s) := by
  refine withHandle_ends fun _ _ _ _ => ownerOnly_ends ?_
  split
  · exact .refused _ _
  · unfold ackGrant
    dsimp only
    split <;> exact .settled _ _ _ _

theorem revokeEvent_ends (payload : List Byte) (t : Taken) (s : State) : Ends starts t s (revokeEvent payload t s) := by
  refine withHandle_ends fun _ _ _ _ => ?_
  split
  · exact .refused _ _
  · exact .settled _ _ _ _

theorem dropEvent_ends (payload : List Byte) (t : Taken) (s : State) : Ends starts t s (dropEvent payload t s) := by
  unfold dropEvent
  split
  · exact .refused _ _
  · split
    · exact .refused _ _
    · split
      · exact .refused _ _
      · exact .settled _ _ _ _

theorem queryEvent_ends (payload : List Byte) (t : Taken) (s : State) : Ends starts t s (queryEvent payload t s) :=
  withHandle_ends fun _ _ _ _ => .refused _ _

theorem listEvent_ends (payload : List Byte) (t : Taken) (s : State) : Ends starts t s (listEvent payload t s) := by
  unfold listEvent
  split
  · exact .refused _ _
  · split <;> exact .refused _ _

theorem mapReadEvent_ends (payload : List Byte) (t : Taken) (s : State) : Ends starts t s (mapReadEvent payload t s) := by
  unfold mapReadEvent
  split
  · exact .refused _ _
  · split <;> exact .refused _ _

theorem getProfileEvent_ends (payload : List Byte) (t : Taken) (s : State) :
    Ends starts t s (getProfileEvent payload t s) := by
  unfold getProfileEvent; split <;> exact .refused _ _

theorem clearFaultEvent_ends (payload : List Byte) (t : Taken) (s : State) :
    Ends starts t s (clearFaultEvent payload t s) := by
  unfold clearFaultEvent
  split
  · exact .refused _ _
  · exact .same _ _ (.of_ctl rfl rfl rfl)

theorem setProfileEvent_ends (payload : List Byte) (t : Taken) (s : State) :
    Ends starts t s (setProfileEvent payload t s) := by
  unfold setProfileEvent
  split
  · exact .refused _ _
  · split
    · exact .refused _ _
    · exact .same _ _ (.of_ctl rfl rfl rfl)

theorem setTiersEvent_ends (payload : List Byte) (t : Taken) (s : State) : Ends starts t s (setTiersEvent payload t s) := by
  unfold setTiersEvent
  split
  · exact .refused _ _
  · split
    · exact .refused _ _
    · rename_i table _
      exact .same _ _ ((SameAlerts.loadTier s table s.ctl.tierInForce).trans (.of_ctl rfl rfl rfl))

theorem recomputeTier_sameAlerts (s : State) : SameAlerts s s.recomputeTier := by
  unfold State.recomputeTier
  dsimp only
  split <;> exact .of_ctl rfl rfl rfl

theorem setMonitorEvent_ends (payload : List Byte) (t : Taken) (s : State) :
    Ends starts t s (setMonitorEvent payload t s) := by
  unfold setMonitorEvent
  split
  · exact .refused _ _
  · split
    · exact .refused _ _
    · refine .same _ _ (SameAlerts.trans (?_ : SameAlerts s _) (recomputeTier_sameAlerts _))
      exact .of_ctl rfl rfl rfl

theorem setFrameEvent_ends (payload : List Byte) (t : Taken) (s : State) : Ends starts t s (setFrameEvent payload t s) := by
  unfold setFrameEvent
  split
  · exact .refused _ _
  · split
    · exact .refused _ _
    · exact .same _ _ (.of_ctl rfl rfl rfl)

theorem startEvent_ends (t : Taken) (s : State) : Ends starts t s (startEvent t s) := by
  unfold startEvent
  split
  · exact .refused _ _
  · split
    · exact .refused _ _
    · split
      · exact .refused _ _
      · exact .same _ _ (.of_ctl rfl rfl rfl)

theorem stopEvent_ends (t : Taken) (s : State) : Ends starts t s (stopEvent t s) := by
  unfold stopEvent
  split
  · exact .answered _ _ fun _ => refreshAlerts_exact _
  · exact .refused _ _

theorem clearEvent_ends (t : Taken) (s : State) : Ends starts t s (clearEvent t s) :=
  .answered _ _ fun _ => refreshAlerts_exact _

end

/-! ## Every request -/

/-- The codes of GRANT and ADJUST, the requests that may start a repack. -/
def StartsRepack (code : Byte) : Prop := code = 0x01 ∨ code = 0x02

/-- What is said of every request's rule: how it ends, and that it leaves the arbiter's preference to the take. -/
structure RuleEnds (starts : Prop) (body : Taken → State → State) : Prop where
  ends : ∀ t s, Ends starts t s (body t s)
  preferred : ∀ t s, (body t s).preferred = s.preferred

theorem ruleEnds_of_moves {starts frees : Prop} {body : Taken → State → State} (ends : ∀ t s, Ends starts t s (body t s))
    (moves : ∀ t s, Moves frees s (body t s)) : RuleEnds starts body := ⟨ends, fun t s => (moves_queueKept (moves t s)).2⟩

/-- Whatever the code, the request's command is the common checks and then a rule that ends so. -/
theorem exec_requestCommand_ends (s : State) (p : Port) (client code : Byte) (payload : List Byte) :
    ∃ body : Taken → State → State, exec (requestCommand p client code payload) s =
      .next (runRequest p client code payload body s) ∧ RuleEnds (StartsRepack code) body := by
  by_cases hknown : code ∈ knownCodes
  · simp only [knownCodes, List.mem_cons, List.not_mem_nil, or_false] at hknown
    rcases hknown with rfl | rfl | rfl | rfl | rfl | rfl | rfl | rfl | rfl | rfl | rfl | rfl | rfl | rfl | rfl | rfl | rfl |
      rfl | rfl | rfl
    · exact ⟨_, rfl, ruleEnds_of_moves (grantEvent_ends (.inl rfl) _) (grantEvent_moves not_false _)⟩
    · exact ⟨_, rfl, ruleEnds_of_moves (adjustEvent_ends (.inr rfl) _) (adjustEvent_moves (frees := True) _)⟩
    · exact ⟨_, rfl, ruleEnds_of_moves (renewEvent_ends _) (renewEvent_moves (frees := True) _)⟩
    · exact ⟨_, rfl, ruleEnds_of_moves (releaseEvent_ends _) (releaseEvent_moves trivial _)⟩
    · exact ⟨_, rfl, ruleEnds_of_moves (ackEvent_ends _) (ackEvent_moves trivial _)⟩
    · exact ⟨_, rfl, ruleEnds_of_moves (revokeEvent_ends _) (revokeEvent_moves (frees := True) _)⟩
    · exact ⟨_, rfl, ruleEnds_of_moves (dropEvent_ends _) (dropEvent_moves trivial _)⟩
    · exact ⟨_, rfl, ruleEnds_of_moves (queryEvent_ends _) (queryEvent_moves (frees := True) _)⟩
    · exact ⟨_, rfl, ruleEnds_of_moves (listEvent_ends _) (listEvent_moves (frees := True) _)⟩
    · exact ⟨_, rfl, ruleEnds_of_moves (mapReadEvent_ends _) (mapReadEvent_moves (frees := True) _)⟩
    · exact ⟨_, rfl, ruleEnds_of_moves (clearFaultEvent_ends _) (clearFaultEvent_moves (frees := True) _)⟩
    · exact ⟨_, rfl, fun _ _ => .refused _ _, fun _ _ => answer_preferred _ _ _ _⟩
    · exact ⟨_, rfl, ruleEnds_of_moves (getProfileEvent_ends _) (getProfileEvent_moves (frees := True) _)⟩
    · exact ⟨_, rfl, ruleEnds_of_moves (setProfileEvent_ends _) (setProfileEvent_moves (frees := True) _)⟩
    · exact ⟨_, rfl, ruleEnds_of_moves (setTiersEvent_ends _) (setTiersEvent_moves (frees := True) _)⟩
    · exact ⟨_, rfl, ruleEnds_of_moves (setMonitorEvent_ends _) (setMonitorEvent_moves (frees := True) _)⟩
    · exact ⟨_, rfl, ruleEnds_of_moves (setFrameEvent_ends _) (setFrameEvent_moves (frees := True) _)⟩
    · exact ⟨_, rfl, ruleEnds_of_moves startEvent_ends (startEvent_moves (frees := True))⟩
    · exact ⟨_, rfl, ruleEnds_of_moves stopEvent_ends (stopEvent_moves trivial)⟩
    · exact ⟨_, rfl, ruleEnds_of_moves clearEvent_ends (clearEvent_moves trivial)⟩
  · rw [requestCommand_unknown hknown]
    exact ⟨_, exec_unknownRequest hknown s p client payload, fun _ _ => .refused _ _, fun _ _ => answer_preferred _ _ _ _⟩

/-- A request's command keeps summaries and lines exact. -/
theorem requestCommand_alerts (s : State) (p : Port) (client code : Byte) (payload : List Byte) (hs : AlertsExact s) :
    ∃ t, exec (requestCommand p client code payload) s = .next t ∧ AlertsExact t := by
  obtain ⟨body, hexec, ends⟩ := exec_requestCommand_ends s p client code payload
  refine ⟨_, hexec, ?_⟩
  rcases runRequest_cases s p client code payload body with ⟨-, heq⟩ | ⟨-, r, heq⟩ | ⟨who, -, heq⟩ <;> rw [heq]
  · exact hs
  · rw [← answer_markTaken s p 0 client code ⟨client, code, payload⟩]
    exact ((markTaken_sameAlerts _ _ _).trans (answer_sameAlerts _ _ _ _)).exact hs
  · exact (ends.ends _ _).alerts ((markTaken_sameAlerts _ _ _).exact hs)

/-! ## The transactions and the events -/

/-- If the command has a next state, its summaries and lines are exact, given that they were. -/
def NextAlerts (s : State) (o : Host.Outcome State Fault Refusal) : Prop :=
  AlertsExact s → ∃ t, o = .next t ∧ AlertsExact t

section
variable {s : State}

theorem NextAlerts.same {t : State} (h : SameAlerts s t) : NextAlerts s (.next t) := fun hs => ⟨t, rfl, h.exact hs⟩
theorem NextAlerts.exact {t : State} (h : AlertsExact t) : NextAlerts s (.next t) := fun _ => ⟨t, rfl, h⟩
theorem NextAlerts.stay : NextAlerts s (.next s) := .same (.refl s)

theorem NextAlerts.ite {q : Prop} [Decidable q] {o o' : Host.Outcome State Fault Refusal} (h : NextAlerts s o)
    (h' : NextAlerts s o') : NextAlerts s (if q then o else o') := by
  split
  · exact h
  · exact h'

theorem takeFrame_alertLow (u : PortUnit) (f : FrameForm) : (u.takeFrame f).alertLow = u.alertLow := by
  unfold PortUnit.takeFrame; split <;> rfl

theorem afterRead_alertLow (u : PortUnit) (n : Nat) : (u.afterRead n).alertLow = u.alertLow := by
  unfold PortUnit.afterRead
  split
  · split <;> rfl
  · rfl

theorem i2cWrite_alertLow (u : PortUnit) (bytes : List Byte) : (i2cWrite u bytes).alertLow = u.alertLow := by
  unfold i2cWrite
  split
  · rfl
  · split
    · rfl
    · exact takeFrame_alertLow _ _

theorem NextAlerts.portA {u : PortUnit} (h : u.alertLow = s.portA.alertLow) : NextAlerts s (.next { s with portA := u }) :=
  .same (.of_ctl rfl h rfl)
theorem NextAlerts.portB {u : PortUnit} (h : u.alertLow = s.portB.alertLow) : NextAlerts s (.next { s with portB := u }) :=
  .same (.of_ctl rfl rfl h)

theorem meetFrameStart_sameAlerts (s : State) (n : Nat) : SameAlerts s (s.meetFrameStart n) :=
  .of_ctl (by simp) (by simp) (by simp)

/-- Another controller with the same notices and summaries, and whatever engine and events. -/
theorem engine_sameAlerts (s : State) {c : Controller} (notices : ∀ p, c.noticePending p = s.ctl.noticePending p)
    (ha : c.summaryA = s.ctl.summaryA) (hb : c.summaryB = s.ctl.summaryB) (v : Vector ChannelUnit 16) (e : Events) :
    SameAlerts s { s with ctl := c, engine := v, events := e } := ⟨notices, ha, hb, rfl, rfl⟩

theorem capture_sameAlerts (s : State) : SameAlerts s s.capture := by
  have stepped := engine_sameAlerts s (stepRamps_noticePending s.ctl) (by simp only [Controller.stepRamps])
    (by simp only [Controller.stepRamps])
  unfold State.capture
  split
  · exact stepped _ _
  · exact .of_ctl rfl rfl rfl

theorem evaluateAll_sameAlerts (s : State) : SameAlerts s s.evaluateAll := .of_ctl rfl rfl rfl
theorem clearSamples_sameAlerts (s : State) : SameAlerts s s.clearSamples := .of_ctl rfl rfl rfl
theorem events_sameAlerts (s : State) (e : Events) : SameAlerts s { s with events := e } := .of_ctl rfl rfl rfl

theorem engineFrame_sameAlerts (s : State) : SameAlerts s s.engineFrame := by
  unfold State.engineFrame
  refine (meetFrameStart_sameAlerts s s.events.engineFrames).trans ?_
  dsimp only
  split
  · exact .refl _
  · exact (events_sameAlerts _ _).trans ((evaluateAll_sameAlerts _).trans
      ((capture_sameAlerts _).trans (clearSamples_sameAlerts _)))

theorem takeSample_sameAlerts (s : State) (r : SenseReading) (l : LimitLevels) : SameAlerts s (s.takeSample r l) := by
  refine SameAlerts.trans (?_ : SameAlerts s _) (recomputeTier_sameAlerts _)
  exact .of_ctl rfl rfl rfl

theorem supplyFrame_sameAlerts (s : State) (r : SenseReading) (l : LimitLevels) : SameAlerts s (s.supplyFrame r l) := by
  unfold State.supplyFrame
  refine (meetFrameStart_sameAlerts s s.events.supplyFrames).trans ?_
  dsimp only
  split
  · exact .refl _
  · exact (events_sameAlerts _ _).trans (takeSample_sameAlerts _ r l)

theorem takeLeaseTick_alerts (s : State) : NextAlerts s (.next s.takeLeaseTick) := by
  unfold State.takeLeaseTick
  split
  · exact .stay
  · dsimp only
    split
    · exact .exact (settle_exact _ _)
    · exact .same (.of_ctl rfl rfl rfl)

theorem rampComplete_alerts (handle duty : Nat) : NextAlerts s (execRampComplete handle duty s) := by
  unfold execRampComplete
  dsimp only
  refine .ite ?_ .stay
  split
  · exact .ite (.exact (settle_exact _ _)) (.same (.of_ctl rfl rfl rfl))
  · exact .same (.of_ctl rfl rfl rfl)

theorem channelFault_alerts (ch : Channel) : NextAlerts s (execChannelFault ch s) :=
  .ite (.ite (.exact (settle_exact _ _)) (.same (.of_ctl rfl rfl rfl))) .stay

theorem takeTierChange_alerts (s : State) (h : AlertsExact s) : AlertsExact s.takeTierChange := by
  unfold State.takeTierChange
  dsimp only
  split
  · exact h
  · split
    · exact (SameAlerts.loadTier _ _ _).exact h
    · split <;> exact settle_exact _ _

theorem tierChange_alerts : NextAlerts s (execTierChange s) := by
  unfold execTierChange
  split
  · exact .stay
  · exact fun hs => ⟨_, rfl, takeTierChange_alerts _ ((events_sameAlerts s _).exact hs)⟩

theorem planComplete_alerts (serial : Byte) : NextAlerts s (execPlanComplete serial s) :=
  .ite (.ite (.same ⟨fun _ => rfl, rfl, rfl, rfl, rfl⟩) (.same (.of_ctl rfl rfl rfl))) .stay

theorem planFailed_alerts (serial : Byte) : NextAlerts s (execPlanFailed serial s) := by
  unfold execPlanFailed
  dsimp only
  refine .ite (.ite ?_ (.same (.of_ctl rfl rfl rfl))) .stay
  split
  · exact .exact ((answerHeld_sameAlerts _ _ _ _).exact (settle_exact _ _))
  · exact .exact (settle_exact _ _)

theorem repackApply_alerts : NextAlerts s (execRepackApply s) := by
  unfold execRepackApply
  dsimp only
  split
  · exact .same (meetFrameStart_sameAlerts _ _)
  · refine .ite ?_ (.same ((meetFrameStart_sameAlerts s s.events.controllerFrames).trans (.of_ctl rfl rfl rfl)))
    unfold State.applyPlan
    split
    · exact .exact ((answerHeld_sameAlerts _ _ _ _).exact (settle_exact _ _))
    · exact .exact (settle_exact _ _)

theorem readbackSample_alerts (ch : Channel) (high : Bool) : NextAlerts s (execReadbackSample ch high s) :=
  .ite .stay (.ite (.same (.of_ctl rfl rfl rfl)) (.ite (.same (.of_ctl rfl rfl rfl)) .stay))

theorem exec_alerts (c : Instr) (s : State) : NextAlerts s (exec c s) := by
  cases c with
  | requestTransaction mosi => exact .ite .stay (.ite (.portA rfl) (.portA (takeFrame_alertLow _ _)))
  | readTransaction n => exact .ite .stay (.ite (.portA rfl) (.portA (afterRead_alertLow _ _)))
  | i2cWriteTransaction address bytes =>
    exact .ite .stay (.ite (.portB rfl) (.ite (.portB rfl) (.portB (i2cWrite_alertLow _ _))))
  | i2cReadTransaction address n =>
    exact .ite .stay (.ite (.portB rfl) (.ite (.portB rfl) (.portB (afterRead_alertLow _ _))))
  | unknownTransactionKind kind n => exact .ite .stay (.ite (.portA rfl) (.portA rfl))
  | unknownRequest p client code pl =>
    refine .ite .stay fun hs => ⟨_, rfl, ?_⟩
    rcases runRequest_cases s p client code pl (fun t => answer t .unknownRequest []) with
      ⟨-, heq⟩ | ⟨-, r, heq⟩ | ⟨who, -, heq⟩ <;> rw [heq]
    · exact hs
    · rw [← answer_markTaken s p 0 client code ⟨client, code, pl⟩]
      exact ((markTaken_sameAlerts _ _ _).trans (answer_sameAlerts _ _ _ _)).exact hs
    · exact ((markTaken_sameAlerts _ _ _).trans (answer_sameAlerts _ _ _ _)).exact hs
  | grant p client pl => exact requestCommand_alerts s p client 0x01 pl
  | adjust p client pl => exact requestCommand_alerts s p client 0x02 pl
  | renew p client pl => exact requestCommand_alerts s p client 0x03 pl
  | release p client pl => exact requestCommand_alerts s p client 0x04 pl
  | ack p client pl => exact requestCommand_alerts s p client 0x05 pl
  | revoke p client pl => exact requestCommand_alerts s p client 0x06 pl
  | dropClient p client pl => exact requestCommand_alerts s p client 0x07 pl
  | query p client pl => exact requestCommand_alerts s p client 0x10 pl
  | list p client pl => exact requestCommand_alerts s p client 0x11 pl
  | mapRead p client pl => exact requestCommand_alerts s p client 0x12 pl
  | clearFault p client pl => exact requestCommand_alerts s p client 0x18 pl
  | status p client pl => exact requestCommand_alerts s p client 0x13 pl
  | getProfile p client pl => exact requestCommand_alerts s p client 0x14 pl
  | setProfile p client pl => exact requestCommand_alerts s p client 0x20 pl
  | setTiers p client pl => exact requestCommand_alerts s p client 0x21 pl
  | setMonitor p client pl => exact requestCommand_alerts s p client 0x22 pl
  | setFrame p client pl => exact requestCommand_alerts s p client 0x23 pl
  | start p client pl => exact requestCommand_alerts s p client 0x28 pl
  | stop p client pl => exact requestCommand_alerts s p client 0x29 pl
  | clear p client pl => exact requestCommand_alerts s p client 0x2A pl
  | frameStart => exact .ite .stay (.same (.of_ctl rfl rfl rfl))
  | engineFrameStart => exact .same (engineFrame_sameAlerts s)
  | channelBecomesFaulted ch => exact .ite (.same (engineFrame_sameAlerts s)) .stay
  | readbackSample ch high => exact readbackSample_alerts ch high
  | sample r l => exact .same (supplyFrame_sameAlerts s r l)
  | downDebounce r l => exact .ite (.same (supplyFrame_sameAlerts s r l)) .stay
  | upHoldOff r l => exact .ite (.same (supplyFrame_sameAlerts s r l)) .stay
  | leaseTick => exact takeLeaseTick_alerts s
  | leaseExpiry i => exact .ite (takeLeaseTick_alerts s) .stay
  | rampComplete handle duty => exact rampComplete_alerts handle duty
  | channelFault ch => exact channelFault_alerts ch
  | tierChange => exact tierChange_alerts
  | planComplete serial => exact planComplete_alerts serial
  | planFailed serial => exact planFailed_alerts serial
  | repackApply => exact repackApply_alerts
  | hardReset => exact .exact reset_alertsExact
  | resetEnd a1 a0 wa wb => exact .ite (.same (.of_ctl rfl rfl rfl)) .stay
  | stepCounterAdvance => exact .ite .stay (.ite (.same (.of_ctl rfl rfl rfl)) (.same (.of_ctl rfl rfl rfl)))

end

/-- Settles O4: each command either ends with the update of the summaries and lines, or changes no notice and no line. -/
theorem alertsKept : Obligations.AlertsKept := by
  intro s t hs h
  unfold step at h
  split at h
  · cases h; exact hs
  · rename_i c rest _
    obtain ⟨u, hu, hau⟩ := exec_alerts c { s with pending := rest } hs
    rw [hu] at h
    cases h
    exact hau

/-! ## The arbiter (R193) -/

theorem requestWaits_iff (u : PortUnit) : u.requestWaits = true ↔ ∃ r, u.request = some ⟨r, .waiting⟩ := by
  unfold PortUnit.requestWaits
  rcases u.request with - | ⟨r, _ | _⟩ <;> simp

theorem arbiterChoice_eq_some_iff (s : State) (p : Port) : s.arbiterChoice = some p ↔
    (s.port p).requestWaits = true ∧ ((s.port (otherPort p)).requestWaits = false ∨ s.preferred = p) := by
  unfold State.arbiterChoice
  cases p <;> cases ha : s.portA.requestWaits <;> cases hb : s.portB.requestWaits <;> simp [State.port, otherPort, ha, hb]

theorem takes_iff (s : State) (p : Port) (client code : Byte) (payload : List Byte) :
    Takes s p client code payload ↔ s.inReset = false ∧ (s.port p).request = some ⟨⟨client, code, payload⟩, .waiting⟩ ∧
      ((s.port (otherPort p)).requestWaits = false ∨ s.preferred = p) := by
  simp only [Takes, State.takes, Bool.and_eq_true, Bool.not_eq_true', beq_iff_eq, arbiterChoice_eq_some_iff, and_assoc]
  constructor
  · rintro ⟨hr, -, hp, hreq⟩; exact ⟨hr, hreq, hp⟩
  · rintro ⟨hr, hreq, hp⟩; exact ⟨hr, (requestWaits_iff _).2 ⟨_, hreq⟩, hp, hreq⟩

/-- A response is written to the port of the request answered. -/
theorem answer_answered (t : Taken) (r : Result) (pl : List Byte) (s : State) :
    Answered (answer t r pl s) t.port t.client t.code r pl := by
  simp [Answered]

theorem answeredState_answered (s : State) (p : Port) (client code : Byte) (r : Result) (pl : List Byte) :
    Answered (answeredState s p client code r pl) p client code r pl := by
  rw [← answer_markTaken s p 0 client code ⟨client, code, pl⟩]
  exact answer_answered ⟨p, 0, client, code⟩ r pl _

/-- A request's rule has answered it, or has started a repack. -/
theorem Ends.cases {starts : Prop} {t : Taken} {s v : State} (h : Ends starts t s v) :
    (∃ r pl, Answered v t.port t.client t.code r pl) ∨ starts ∧ ∃ held input, v = s.startRepack held input := by
  cases h with
  | answered r pl _ => exact .inl ⟨r, pl, answer_answered t r pl _⟩
  | started allowed held input => exact .inr ⟨allowed, held, input, rfl⟩

/-- A request taken is answered, or its rule has started a repack from the state in which it is marked taken. -/
theorem exec_taken {s : State} {p : Port} {client code : Byte} {payload : List Byte} (h : Takes s p client code payload) :
    ∃ t, exec (requestCommand p client code payload) s = .next t ∧ t.preferred = otherPort p ∧
      ((∃ r pl, Answered t p client code r pl) ∨
        StartsRepack code ∧ ∃ held input, t = (s.markTaken p ⟨client, code, payload⟩).startRepack held input) := by
  obtain ⟨body, hexec, rule⟩ := exec_requestCommand_ends s p client code payload
  refine ⟨_, hexec, ?_⟩
  rcases runRequest_cases s p client code payload body with ⟨hn, -⟩ | ⟨-, r, heq⟩ | ⟨who, -, heq⟩
  · exact absurd h hn
  · rw [heq]; exact ⟨rfl, .inl ⟨r, [], answeredState_answered s p client code r []⟩⟩
  · rw [heq]; exact ⟨rule.preferred _ _, (rule.ends ⟨p, who, client, code⟩ _).cases⟩

/-- Only a take moves the preference. -/
theorem exec_preferred {c : Instr} {s t : State} (hc : c ≠ .hardReset) (h : exec c s = .next t) :
    t.preferred = s.preferred ∨ ∃ p client code payload, c = requestCommand p client code payload ∧
      Takes s p client code payload := by
  have hr := exec_reaches c s hc
  rw [h] at hr
  cases hr with
  | moved moves => exact .inl (moves_queueKept moves).2
  | served mine takes _ => exact .inr ⟨_, _, _, _, mine, takes⟩

/-- Settles O17: the arbiter's choice written out, how the rule of each code ends, and the preference through the moves of every
command. -/
theorem arbiterTakesInTurn : Obligations.ArbiterTakesInTurn := by
  refine ⟨takes_iff, fun s p client code payload h => ?_, fun s p client code payload h => ?_, fun c s t h hne => ?_⟩
  · obtain ⟨t, hexec, hpref, hans | ⟨hcode, held, input, rfl⟩⟩ := exec_taken h
    · exact ⟨t, hexec, hpref, .inl hans⟩
    · exact ⟨_, hexec, hpref, .inr ⟨hcode, rfl, by simp, by simp, by simp⟩⟩
  · obtain ⟨body, hexec⟩ := exec_requestCommand s p client code payload
    rw [hexec, runRequest_not_taken h]
  · by_cases hc : c = .hardReset
    · exact .inr hc
    · exact .inl ((exec_preferred hc h).resolve_left hne)

/-- Settles O10: the laws at reset, each read off an empty table. -/
theorem resetMeetsInvariants : Obligations.ResetMeetsInvariants :=
  ⟨reset_portsConsistent, reset_faultPairing, reset_configEmpty, reset_listsExact, reset_alertsExact, reset_holders.1,
    reset_holders.2, reset_tier3Empty, reset_roomExact, reset_reservationBound, reset_pinnedHome, reset_ceilingsHeld⟩

end Sys2Proof.Proofs
end

section
/-! SUPPORT. Frames on the wire: a request frame read back, the check byte's register, and the bytes of a transaction (R187 to
R192, R197). -/

namespace Sys2Proof.Proofs

open Sys2Proof Sys2Proof.Machine Sys2Proof.Safety Sys2Proof.Laws

/-! ## A frame's bytes -/

/-- A request frame without its check byte. -/
def frameBody (client code : Byte) (payload : List Byte) : List Byte :=
  BitVec.ofNat 8 (2 + payload.length) :: client :: code :: payload

section
variable {client code : Byte} {payload : List Byte}

theorem requestFrame_eq : requestFrame client code payload =
    BitVec.ofNat 8 (2 + payload.length) :: client :: code :: (payload ++ [checkByte (frameBody client code payload)]) := rfl

@[simp] theorem requestFrame_length : (requestFrame client code payload).length = payload.length + 4 := by
  simp [requestFrame_eq]

theorem lengthByte_toNat (h : payload.length ≤ 24) : (BitVec.ofNat 8 (2 + payload.length)).toNat = 2 + payload.length := by
  rw [BitVec.toNat_ofNat]; omega

theorem lengthByte_ok (h : payload.length ≤ 24) : lengthByteOk (BitVec.ofNat 8 (2 + payload.length)) = true := by
  unfold lengthByteOk
  rw [lengthByte_toNat h, decide_eq_true_eq]; omega

theorem lengthByteOk_of_outside {len : Byte} (h : len.toNat < 2 ∨ 26 < len.toNat) : lengthByteOk len = false := by
  unfold lengthByteOk
  rw [decide_eq_false_iff_not]; omega

/-- A frame of the right length is judged by its check byte, unless a byte follows it where none may. -/
theorem frameForm_whole (h : payload.length ≤ 24) (exact : Bool) (x : Byte) (tail : List Byte) (hx : exact = true → tail = []) :
    frameForm exact (BitVec.ofNat 8 (2 + payload.length) :: client :: code :: (payload ++ x :: tail)) =
      if checkByte (frameBody client code payload) = x then .sound ⟨client, code, payload⟩ else .badCheck := by
  have size : 2 + payload.length - 2 = payload.length := by omega
  have fits : (!exact || decide ((payload ++ x :: tail).length = payload.length + 1)) = true := by
    cases exact
    · rfl
    · simp [hx rfl]
  have enough : payload.length + 1 ≤ (payload ++ x :: tail).length := by simp
  have first : (payload ++ x :: tail).getD payload.length 0 = x := by simp [List.getD_eq_getElem?_getD]
  simp only [frameForm, lengthByte_ok h, lengthByte_toNat h, size, fits, enough, decide_true, Bool.and_self, if_true,
    List.take_left', first, frameBody]; rfl

/-- A byte after the check byte, where none may follow. -/
theorem frameForm_excess (h : payload.length ≤ 24) (x : Byte) {tail : List Byte} (ht : tail ≠ []) :
    frameForm true (BitVec.ofNat 8 (2 + payload.length) :: client :: code :: (payload ++ x :: tail)) = .malformed := by
  have size : 2 + payload.length - 2 = payload.length := by omega
  simp [frameForm, lengthByte_toNat h, size, ht]

/-- A frame cut short. -/
theorem frameForm_short (h : payload.length ≤ 24) {n : Nat} (hn : n < payload.length + 4) (exact : Bool) :
    frameForm exact ((requestFrame client code payload).take n) = .malformed := by
  rw [requestFrame_eq]
  match n, hn with
  | 0, _ => rfl
  | 1, _ => rfl
  | 2, _ => rfl
  | m + 3, hm =>
    have few : ¬ payload.length + 1 ≤ m := by omega
    simp [frameForm, lengthByte_toNat h, few]

theorem frameForm_badLength {len : Byte} (h : len.toNat < 2 ∨ 26 < len.toNat) (exact : Bool) (rest : List Byte) :
    frameForm exact (len :: rest) = .malformed := by
  match rest with
  | [] => rfl
  | [_] => rfl
  | _ :: _ :: _ => simp [frameForm, lengthByteOk_of_outside h]

theorem frameForm_requestFrame_append (h : payload.length ≤ 24) (tail : List Byte) :
    frameForm false (requestFrame client code payload ++ tail) = .sound ⟨client, code, payload⟩ := by
  have := frameForm_whole (client := client) (code := code) h false (checkByte (frameBody client code payload)) tail nofun
  simpa [requestFrame_eq] using this

theorem frameForm_requestFrame (h : payload.length ≤ 24) :
    frameForm true (requestFrame client code payload) = .sound ⟨client, code, payload⟩ := by
  have := frameForm_whole (client := client) (code := code) h true (checkByte (frameBody client code payload)) [] fun _ => rfl
  simpa [requestFrame_eq] using this

theorem frameForm_requestFrame_excess (h : payload.length ≤ 24) {tail : List Byte} (ht : tail ≠ []) :
    frameForm true (requestFrame client code payload ++ tail) = .malformed := by
  have := frameForm_excess (client := client) (code := code) h (checkByte (frameBody client code payload)) ht
  simpa [requestFrame_eq] using this

theorem frameForm_wrongCheck (h : payload.length ≤ 24) {x : Byte} (hx : x ≠ checkByte (frameBody client code payload))
    (exact : Bool) (tail : List Byte) (ht : exact = true → tail = []) :
    frameForm exact (BitVec.ofNat 8 (2 + payload.length) :: client :: code :: (payload ++ x :: tail)) = .badCheck := by
  rw [frameForm_whole h exact x tail ht, if_neg hx.symm]

end

/-! ## The check byte's register (R188) -/

/-- One shift of the register. -/
def shiftedOnce (r : Byte) : Byte := BitVec.ofNat 8 (2 * r.toNat % 256) ^^^ if 128 ≤ r.toNat then 0x07 else 0x00

theorem crcShift_succ (n : Nat) (r : Byte) : crcShift (n + 1) r = crcShift n (shiftedOnce r) := by
  have doubled : r <<< 1 = BitVec.ofNat 8 (2 * r.toNat % 256) := by
    apply BitVec.eq_of_toNat_eq
    simp [BitVec.toNat_shiftLeft, Nat.shiftLeft_eq, Nat.mul_comm]
  have top : r.getLsbD 7 = decide (128 ≤ r.toNat) := by
    rw [show r.getLsbD 7 = r.msb by simp [BitVec.msb_eq_getLsbD_last], BitVec.msb_eq_decide]
  rw [crcShift, shiftedOnce, ← doubled, top]
  by_cases h : 128 ≤ r.toNat <;> simp [h]

theorem checkByte_append (bytes : List Byte) (b : Byte) :
    checkByte (bytes ++ [b]) = crcShift 8 (checkByte bytes ^^^ b) := by simp [checkByte]

/-- Settles O12: a frame's form by where it ends, and the register shift by shift. -/
theorem requestFramesRoundTrip : Obligations.RequestFramesRoundTrip := by
  refine ⟨fun client code payload tail h => ⟨frameForm_requestFrame h, frameForm_requestFrame_append h tail,
    frameForm_requestFrame_excess h, fun n hn => frameForm_short h hn, fun x hx exact => ?_⟩,
    fun exact len rest h => frameForm_badLength h exact rest, rfl, fun bytes b => ?_⟩
  · exact frameForm_wrongCheck h hx exact [] fun _ => rfl
  · rw [checkByte_append]
    simp only [crcShift_succ]
    rfl

/-! ## One byte among the others -/

theorem map_range_single (n place : Nat) (b : Byte) :
    (List.range n).map (fun i => if i = place then b else 0xFF) =
      if place < n then List.replicate place 0xFF ++ b :: List.replicate (n - place - 1) 0xFF
      else List.replicate n 0xFF := by
  split
  · rename_i h
    refine List.ext_getElem (by simp; omega) fun i h1 h2 => ?_
    simp only [List.getElem_map, List.getElem_range]
    rcases Nat.lt_trichotomy i place with hlt | rfl | hgt
    · rw [if_neg hlt.ne, List.getElem_append_left (by simpa using hlt), List.getElem_replicate]
    · simp
    · obtain ⟨k, rfl⟩ := Nat.exists_eq_add_of_lt hgt
      rw [if_neg (by omega), List.getElem_append_right (by simp; omega)]
      simp [show place + k + 1 - place = k + 1 by omega]
  · rename_i h
    refine List.ext_getElem (by simp) fun i h1 h2 => ?_
    have : i < n := by simpa using h1
    simp only [List.getElem_map, List.getElem_range, List.getElem_replicate]
    rw [if_neg (by omega)]

theorem map_range_getD (l : List Byte) (n : Nat) :
    (List.range n).map (fun i => l.getD i 0xFF) = l.take n ++ List.replicate (n - l.length) 0xFF := by
  refine List.ext_getElem (by simp; omega) fun i h1 h2 => ?_
  have hi : i < n := by simpa using h1
  simp only [List.getElem_map, List.getElem_range]
  by_cases h : i < l.length
  · rw [List.getElem_append_left (by simp; omega), List.getElem_take]
    simp [List.getD_eq_getElem?_getD, h]
  · rw [List.getElem_append_right (by simp; omega), List.getElem_replicate]
    simp [List.getD_eq_getElem?_getD, Nat.le_of_not_lt h]

theorem map_range_lt (n k : Nat) :
    (List.range n).map (fun i => decide (i < k)) = List.replicate (min n k) true ++ List.replicate (n - k) false := by
  refine List.ext_getElem (by simp; omega) fun i h1 h2 => ?_
  have hi : i < n := by simpa using h1
  simp only [List.getElem_map, List.getElem_range]
  by_cases h : i < k
  · rw [List.getElem_append_left (by simp; omega), List.getElem_replicate]; simpa using h
  · rw [List.getElem_append_right (by simp; omega), List.getElem_replicate]; simpa using h

/-! ## REQUEST transactions on Port A -/

theorem verdictPlace_frame {payload : List Byte} (h : payload.length ≤ 24) (rest : List Byte) :
    verdictPlace (BitVec.ofNat 8 (2 + payload.length) :: rest) = payload.length + 4 := by
  simp only [verdictPlace, lengthByte_ok h, lengthByte_toNat h]
  simp only [if_true]; omega

theorem verdictPlace_badLength {len : Byte} (h : len.toNat < 2 ∨ 26 < len.toNat) (rest : List Byte) :
    verdictPlace (len :: rest) = 1 := by
  simp [verdictPlace, lengthByteOk_of_outside h]

/-- The bytes Port A returns: the verdict byte at its place, if the transaction is that long, and 0xFF elsewhere. -/
theorem misoOfRequest_eq (v : Verdict) (mosi : List Byte) : misoOfRequest v mosi = 0xFF ::
    if verdictPlace mosi < mosi.length then List.replicate (verdictPlace mosi) 0xFF ++ verdictByte v ::
      List.replicate (mosi.length - verdictPlace mosi - 1) 0xFF
    else List.replicate mosi.length 0xFF := by
  rw [misoOfRequest, map_range_single]

/-- The bytes returned during a frame of the right length and what is clocked after it. -/
theorem misoOfRequest_frame {payload : List Byte} (h : payload.length ≤ 24) (v : Verdict) (rest tail : List Byte)
    (hl : rest.length = payload.length + 3) :
    misoOfRequest v (BitVec.ofNat 8 (2 + payload.length) :: (rest ++ tail)) = List.replicate (payload.length + 5) 0xFF ++
      (match tail with | [] => [] | _ :: more => verdictByte v :: List.replicate more.length 0xFF) := by
  rw [misoOfRequest_eq, verdictPlace_frame h]
  cases tail with
  | nil => simp [hl, List.replicate_succ]
  | cons b more =>
    have inside : payload.length + 4 < (BitVec.ofNat 8 (2 + payload.length) :: (rest ++ b :: more)).length := by
      simp [hl]; omega
    rw [if_pos inside]
    simp [hl, List.replicate_succ]

section
variable {s : State}

theorem exec_requestTransaction (hr : s.inReset = false) (hi : s.portA.ignoring = false) (mosi : List Byte) :
    exec (.requestTransaction mosi) s = .next { s with portA := spiRequest s.portA mosi } := by
  simp [exec, execRequestTransaction, hr, hi]

/-- A frame not accepted changes the verdict alone. -/
theorem takeFrame_refused {u : PortUnit} {f : FrameForm} {v : Verdict} (hj : judge u f = v) (hv : v ≠ .accepted) :
    u.takeFrame f = { u with verdict := some v } := by
  unfold PortUnit.takeFrame
  rw [hj]
  cases v with
  | accepted => exact absurd rfl hv
  | _ => rfl

theorem takeFrame_accepted {u : PortUnit} (h : u.state ≠ .inFlight) (r : Request) : u.takeFrame (.sound r) =
    { u with state := .inFlight, request := some ⟨r, .waiting⟩, response := none, verdict := some .accepted } := by
  simp [PortUnit.takeFrame, judge, h]

/-- A REQUEST transaction that Port A refuses with this verdict. -/
theorem exec_requestTransaction_refused (hr : s.inReset = false) (hi : s.portA.ignoring = false) {mosi wire : List Byte}
    {v : Verdict} (hj : judge s.portA (frameForm false mosi) = v) (hv : v ≠ .accepted) (hw : misoOfRequest v mosi = wire) :
    exec (.requestTransaction mosi) s =
      .next { s with portA := { s.portA with verdict := some v, wire := ⟨[], wire⟩ } } := by
  rw [exec_requestTransaction hr hi, spiRequest]
  simp only [hj, hw, takeFrame_refused hj hv]

/-! ## Write transactions on Port B -/

theorem exec_i2cWrite (hr : s.inReset = false) (hi : s.portB.ignoring = false) (bytes : List Byte) :
    exec (.i2cWriteTransaction s.addressB bytes) s =
      .next { s with portB := { i2cWrite s.portB bytes with wire := ⟨true :: writeAcks s.portB bytes, []⟩ } } := by
  simp [exec, execI2cWriteTransaction, hr, hi]

/-- A port that is not IN_FLIGHT acknowledges the bytes up to the check byte's place; none after a length byte out of range. -/
theorem writeAcks_frame {payload : List Byte} (h : payload.length ≤ 24) {u : PortUnit} (hu : u.state ≠ .inFlight)
    (rest : List Byte) : writeAcks u (BitVec.ofNat 8 (2 + payload.length) :: rest) =
      List.replicate (min (rest.length + 1) (payload.length + 4)) true ++
        List.replicate (rest.length + 1 - (payload.length + 4)) false := by
  rw [← map_range_lt]
  simp only [writeAcks, hu, lengthByte_ok h, lengthByte_toNat h, List.length_cons, ne_eq, not_false_eq_true, decide_true,
    Bool.true_and, show 2 + payload.length + 2 = payload.length + 4 by omega]

theorem writeAcks_none {u : PortUnit} {len : Byte} (h : u.state = .inFlight ∨ lengthByteOk len = false) (rest : List Byte) :
    writeAcks u (len :: rest) = List.replicate (rest.length + 1) false := by
  have off : (decide (u.state ≠ .inFlight) && lengthByteOk len) = false := by rcases h with h | h <;> simp [h]
  simp only [writeAcks, off, Bool.false_and, List.map_const', List.length_range, List.length_cons]

/-- A write that Port B refuses with this verdict. -/
theorem exec_i2cWrite_refused (hr : s.inReset = false) (hi : s.portB.ignoring = false) (hs : s.portB.state ≠ .inFlight)
    {bytes : List Byte} {acks : List Bool} {v : Verdict} (hb : bytes ≠ [])
    (hj : judge s.portB (frameForm true bytes) = v) (hv : v ≠ .accepted) (hw : writeAcks s.portB bytes = acks) :
    exec (.i2cWriteTransaction s.addressB bytes) s =
      .next { s with portB := { s.portB with verdict := some v, wire := ⟨true :: acks, []⟩ } } := by
  rw [exec_i2cWrite hr hi, i2cWrite, if_neg hb, if_neg hs, takeFrame_refused hj hv, hw]

end

/-- Settles O14: a sound frame's form, the take of it, and the bytes and acknowledge bits of a frame of the right length. -/
theorem soundFramesAccepted : Obligations.SoundFramesAccepted := by
  refine ⟨fun s client code payload tail hr hi hs h => ?_, fun s client code payload hr hi hs h => ?_⟩
  · have form := frameForm_requestFrame_append (client := client) (code := code) h tail
    have wire := misoOfRequest_frame h .accepted (client :: code :: (payload ++ [checkByte (frameBody client code payload)]))
      tail (by simp)
    have accepts : judge s.portA (.sound ⟨client, code, payload⟩) = .accepted := if_neg hs
    rw [exec_requestTransaction hr hi, spiRequest]
    simp only [form, takeFrame_accepted hs, accepts]
    rw [show requestFrame client code payload ++ tail = BitVec.ofNat 8 (2 + payload.length) ::
      ((client :: code :: (payload ++ [checkByte (frameBody client code payload)])) ++ tail) from rfl, wire]
    rfl
  · have form := frameForm_requestFrame (client := client) (code := code) h
    have acks := writeAcks_frame h hs (client :: code :: (payload ++ [checkByte (frameBody client code payload)]))
    rw [exec_i2cWrite hr hi, i2cWrite, if_neg (by simp [requestFrame_eq]), if_neg hs, form, takeFrame_accepted hs,
      requestFrame_eq, acks]
    simp [List.replicate_succ]

/-! ## Frames refused -/

theorem misoOfRequest_badLength {len : Byte} (h : len.toNat < 2 ∨ 26 < len.toNat) (v : Verdict) (rest : List Byte) :
    misoOfRequest v (len :: rest) = 0xFF :: 0xFF ::
      (match rest with | [] => [] | _ :: more => verdictByte v :: List.replicate more.length 0xFF) := by
  rw [misoOfRequest_eq, verdictPlace_badLength h]
  cases rest <;> simp

/-- The bytes of a frame cut short are its length byte and what is there of the rest. -/
theorem take_requestFrame (client code : Byte) (payload : List Byte) {n : Nat} (hn : 0 < n) :
    ∃ rest, (requestFrame client code payload).take n = BitVec.ofNat 8 (2 + payload.length) :: rest := by
  obtain ⟨m, rfl⟩ := Nat.exists_eq_succ_of_ne_zero hn.ne'
  exact ⟨_, rfl⟩

theorem misoOfRequest_short {client code : Byte} {payload : List Byte} (h : payload.length ≤ 24) {n : Nat}
    (hn : n < payload.length + 4) (v : Verdict) :
    misoOfRequest v ((requestFrame client code payload).take n) = List.replicate (n + 1) 0xFF := by
  have len : ((requestFrame client code payload).take n).length = n := by simp; omega
  rcases Nat.eq_zero_or_pos n with rfl | pos
  · rfl
  · have place : verdictPlace ((requestFrame client code payload).take n) = payload.length + 4 := by
      obtain ⟨rest, hrest⟩ := take_requestFrame client code payload pos
      rw [hrest, verdictPlace_frame h]
    rw [misoOfRequest_eq, place, len, if_neg (by omega), List.replicate_succ]

theorem judge_malformed {u : PortUnit} {f : FrameForm} (h : f = .malformed) : judge u f = .frameError := by rw [h]; rfl
theorem judge_badCheck {u : PortUnit} {f : FrameForm} (h : f = .badCheck) : judge u f = .checkFail := by rw [h]; rfl
theorem judge_busy {u : PortUnit} {f : FrameForm} {r : Request} (h : f = .sound r) (hu : u.state = .inFlight) :
    judge u f = .busy := by rw [h]; exact if_pos hu

section
variable {s : State} (hr : s.inReset = false)
include hr

section
variable (hi : s.portA.ignoring = false)
include hi

theorem spi_badLength {len : Byte} (h : len.toNat < 2 ∨ 26 < len.toNat) (rest : List Byte) :
    exec (.requestTransaction (len :: rest)) s = .next
      { s with portA := { s.portA with verdict := some .frameError, wire := ⟨[], 0xFF :: 0xFF ::
          (match rest with | [] => [] | _ :: more => 0x84 :: List.replicate more.length 0xFF)⟩ } } :=
  exec_requestTransaction_refused hr hi (judge_malformed (frameForm_badLength h _ _)) nofun
    (by rw [misoOfRequest_badLength h]; rfl)

theorem spi_short {client code : Byte} {payload : List Byte} {n : Nat} (h : payload.length ≤ 24) (hn : n < payload.length + 4) :
    exec (.requestTransaction ((requestFrame client code payload).take n)) s = .next
      { s with portA := { s.portA with verdict := some .frameError, wire := ⟨[], List.replicate (n + 1) 0xFF⟩ } } :=
  exec_requestTransaction_refused hr hi (judge_malformed (frameForm_short h hn _)) nofun (misoOfRequest_short h hn _)

theorem spi_wrongCheck {client code x : Byte} {payload : List Byte} (h : payload.length ≤ 24)
    (hx : x ≠ checkByte (frameBody client code payload)) (next : Byte) :
    exec (.requestTransaction (frameBody client code payload ++ [x, next])) s = .next
      { s with portA := { s.portA with verdict := some .checkFail,
                                       wire := ⟨[], List.replicate (payload.length + 5) 0xFF ++ [0x83]⟩ } } := by
  refine exec_requestTransaction_refused hr hi (judge_badCheck (frameForm_wrongCheck h hx _ [next] nofun)) nofun ?_
  have wire := misoOfRequest_frame h .checkFail (client :: code :: (payload ++ [x])) [next] (by simp)
  rw [show frameBody client code payload ++ [x, next] = BitVec.ofNat 8 (2 + payload.length) ::
    ((client :: code :: (payload ++ [x])) ++ [next]) by simp [frameBody], wire]
  rfl

theorem spi_busy {client code : Byte} {payload : List Byte} (h : payload.length ≤ 24) (hs : s.portA.state = .inFlight)
    (next : Byte) :
    exec (.requestTransaction (requestFrame client code payload ++ [next])) s = .next
      { s with portA := { s.portA with verdict := some .busy,
                                       wire := ⟨[], List.replicate (payload.length + 5) 0xFF ++ [0x82]⟩ } } := by
  refine exec_requestTransaction_refused hr hi (judge_busy (frameForm_requestFrame_append h _) hs) nofun ?_
  exact misoOfRequest_frame h .busy (client :: code :: (payload ++ [checkByte (frameBody client code payload)])) [next]
    (by simp)

theorem spi_unknownKind {kind : Byte} (hq : kind ≠ 0x3C) (hread : kind ≠ 0xC3) (clocked : Nat) :
    exec (.unknownTransactionKind kind clocked) s = .next
      { s with portA := { s.portA with verdict := some .frameError,
                                       wire := ⟨[], List.replicate (clocked + 1) 0xFF⟩ } } := by
  have noRequest : (kind == Config.kindRequest) = false := beq_eq_false_iff_ne.2 hq
  have noRead : (kind == Config.kindRead) = false := beq_eq_false_iff_ne.2 hread
  simp [exec, execUnknownTransactionKind, hr, hi, noRequest, noRead]

end

section
variable (hi : s.portB.ignoring = false)
include hi

theorem i2c_otherAddress {address : BitVec 7} (h : address ≠ s.addressB) (bytes : List Byte) :
    exec (.i2cWriteTransaction address bytes) s = .next { s with portB := { s.portB with wire := ⟨[false], []⟩ } } := by
  simp [exec, execI2cWriteTransaction, hr, hi, h]

theorem i2c_busy (hs : s.portB.state = .inFlight) (b : Byte) (bytes : List Byte) :
    exec (.i2cWriteTransaction s.addressB (b :: bytes)) s = .next
      { s with portB := { s.portB with verdict := some .busy,
                                       wire := ⟨true :: List.replicate (bytes.length + 1) false, []⟩ } } := by
  rw [exec_i2cWrite hr hi, i2cWrite, if_neg (by simp), if_pos hs, writeAcks_none (.inl hs)]

section
variable (hs : s.portB.state ≠ .inFlight)
include hs

theorem i2c_badLength {len : Byte} (h : len.toNat < 2 ∨ 26 < len.toNat) (rest : List Byte) :
    exec (.i2cWriteTransaction s.addressB (len :: rest)) s = .next
      { s with portB := { s.portB with verdict := some .frameError,
                                       wire := ⟨true :: List.replicate (rest.length + 1) false, []⟩ } } :=
  exec_i2cWrite_refused hr hi hs (by simp) (judge_malformed (frameForm_badLength h _ _)) nofun
    (writeAcks_none (.inr (lengthByteOk_of_outside h)) _)

theorem i2c_excess {client code : Byte} {payload tail : List Byte} (h : payload.length ≤ 24) (ht : tail ≠ []) :
    exec (.i2cWriteTransaction s.addressB (requestFrame client code payload ++ tail)) s = .next
      { s with portB := { s.portB with
          verdict := some .frameError
          wire := ⟨List.replicate (payload.length + 5) true ++ List.replicate tail.length false, []⟩ } } := by
  have acks := writeAcks_frame h hs (client :: code :: (payload ++ [checkByte (frameBody client code payload)]) ++ tail)
  rw [exec_i2cWrite_refused hr hi hs (by simp [requestFrame_eq]) (judge_malformed (frameForm_requestFrame_excess h ht)) nofun
    acks]
  have count : (client :: code :: (payload ++ [checkByte (frameBody client code payload)]) ++ tail).length + 1 =
      payload.length + 4 + tail.length := by simp; omega
  rw [count, Nat.min_eq_right (by omega), Nat.add_sub_cancel_left]
  simp [List.replicate_succ]

theorem i2c_short {client code : Byte} {payload : List Byte} {n : Nat} (h : payload.length ≤ 24) (pos : 0 < n)
    (hn : n < payload.length + 4) :
    exec (.i2cWriteTransaction s.addressB ((requestFrame client code payload).take n)) s = .next
      { s with portB := { s.portB with verdict := some .frameError, wire := ⟨List.replicate (n + 1) true, []⟩ } } := by
  have len : ((requestFrame client code payload).take n).length = n := by simp; omega
  obtain ⟨rest, hrest⟩ := take_requestFrame client code payload pos
  have form := frameForm_short (client := client) (code := code) h hn true
  rw [hrest] at form len ⊢
  rw [exec_i2cWrite_refused hr hi hs (by simp) (judge_malformed form) nofun (writeAcks_frame h hs rest)]
  have count : rest.length + 1 = n := len
  rw [count, Nat.min_eq_left hn.le, Nat.sub_eq_zero_of_le hn.le]
  simp [List.replicate_succ]

theorem i2c_wrongCheck {client code x : Byte} {payload : List Byte} (h : payload.length ≤ 24)
    (hx : x ≠ checkByte (frameBody client code payload)) :
    exec (.i2cWriteTransaction s.addressB (frameBody client code payload ++ [x])) s = .next
      { s with portB := { s.portB with verdict := some .checkFail,
                                       wire := ⟨List.replicate (payload.length + 5) true, []⟩ } } := by
  have acks := writeAcks_frame h hs (client :: code :: (payload ++ [x]))
  have form := frameForm_wrongCheck h hx true [] fun _ => rfl
  rw [show frameBody client code payload ++ [x] = BitVec.ofNat 8 (2 + payload.length) :: client :: code :: (payload ++ [x])
    from rfl, exec_i2cWrite_refused hr hi hs (by simp) (judge_badCheck form) nofun acks]
  simp [List.replicate_succ]

end
end
end

/-- Settles O15: each frame's form gives the verdict, and its length byte the bytes returned or acknowledged. -/
theorem portsRefuseFrames : Obligations.PortsRefuseFrames :=
  ⟨fun _ _ rest hr hi h => spi_badLength hr hi h rest,
    fun _ _ _ _ _ hr hi h hn => spi_short hr hi h hn,
    fun _ _ _ _ next _ hr hi h => ⟨fun hx => spi_wrongCheck hr hi h hx next, fun hs => spi_busy hr hi h hs next⟩,
    fun _ _ clocked hr hi hq hread => spi_unknownKind hr hi hq hread clocked,
    fun _ hr hi => ⟨fun _ bytes h => i2c_otherAddress hr hi h bytes, exec_i2cWrite hr hi [],
      fun b bytes hs => i2c_busy hr hi hs b bytes,
      fun hs => ⟨fun _ rest h => i2c_badLength hr hi hs h rest, fun _ _ _ _ h ht => i2c_excess hr hi hs h ht,
        fun _ _ _ _ h pos hn => i2c_short hr hi hs h pos hn, fun _ _ _ _ h hx => i2c_wrongCheck hr hi hs h hx⟩⟩⟩

/-! ## Reads -/

/-- What a read of a port that is not READY sends: the port state byte, and 0xFF. -/
theorem sent_of_not_ready {u : PortUnit} (h : u.state ≠ .ready) (n : Nat) :
    u.sent (n + 1) = u.stateByte :: List.replicate n 0xFF ∧ u.afterRead (n + 1) = u := by
  have bytes : u.readBytes = [u.stateByte] := by
    unfold PortUnit.readBytes; split
    · rename_i hs _; exact absurd hs h
    · rfl
  refine ⟨by rw [PortUnit.sent, map_range_getD, bytes]; simp, ?_⟩
  unfold PortUnit.afterRead; split
  · rename_i hs _; exact absurd hs h
  · rfl

theorem readBytes_ready {u : PortUnit} {r : Response} (hs : u.state = .ready) (hr : u.response = some r) :
    u.readBytes = u.stateByte :: r.frame := by simp [PortUnit.readBytes, hs, hr]

/-- A READY port's response sent whole is delivered. -/
theorem sent_whole {u : PortUnit} {r : Response} (hs : u.state = .ready) (hr : u.response = some r) (n : Nat) :
    u.sent (1 + r.frame.length + n) = u.stateByte :: r.frame ++ List.replicate n 0xFF ∧
    u.afterRead (1 + r.frame.length + n) = { u with state := .idle, response := none } := by
  have bytes := readBytes_ready hs hr
  constructor
  · rw [PortUnit.sent, map_range_getD, bytes, List.take_of_length_le (by simp; omega)]
    simp [show 1 + r.frame.length + n - (r.frame.length + 1) = n by omega]
  · simp [PortUnit.afterRead, hs, hr, bytes, show r.frame.length + 1 ≤ 1 + r.frame.length + n by omega]

/-- A shorter read leaves the response. -/
theorem sent_part {u : PortUnit} {r : Response} (hs : u.state = .ready) (hr : u.response = some r) {n : Nat}
    (hn : n ≤ r.frame.length) : u.sent n = (u.stateByte :: r.frame).take n ∧ u.afterRead n = u := by
  have bytes := readBytes_ready hs hr
  constructor
  · rw [PortUnit.sent, map_range_getD, bytes]
    simp [show n - (r.frame.length + 1) = 0 by omega]
  · simp [PortUnit.afterRead, hs, hr, bytes, show ¬ r.frame.length + 1 ≤ n by omega]

theorem exec_readTransaction {s : State} (hr : s.inReset = false) (hi : s.portA.ignoring = false) (n : Nat) :
    exec (.readTransaction n) s =
      .next { s with portA := { s.portA.afterRead n with wire := ⟨[], 0xFF :: s.portA.sent n⟩ } } := by
  simp [exec, execReadTransaction, hr, hi]

theorem exec_i2cRead {s : State} (hr : s.inReset = false) (hi : s.portB.ignoring = false) (n : Nat) :
    exec (.i2cReadTransaction s.addressB n) s =
      .next { s with portB := { s.portB.afterRead n with wire := ⟨[true], s.portB.sent n⟩ } } := by
  simp [exec, execI2cReadTransaction, hr, hi]

/-- The port state byte's number: its flag bits and the two codes at their places (R197). -/
theorem stateByte_toNat (u : PortUnit) :
    u.stateByte.toNat = 128 + 32 * u.alertLow.toNat + 4 * verdictCode u.verdict + u.state.code := by
  have v : verdictCode u.verdict ≤ 4 := by rcases u.verdict with - | (- | - | - | -) <;> decide
  have st : u.state.code ≤ 2 := by cases u.state <;> decide
  have al := Bool.toNat_le u.alertLow
  rw [PortUnit.stateByte, BitVec.toNat_ofNat]
  omega

theorem getLsbD_eq_decide (b : Byte) (i : Nat) : b.getLsbD i = decide (b.toNat / 2 ^ i % 2 = 1) := by
  rw [BitVec.getLsbD, Nat.testBit_eq_decide_div_mod_eq]

theorem stateByte_fields (u : PortUnit) :
    u.stateByte.getLsbD 7 = true ∧ u.stateByte.getLsbD 6 = false ∧ u.stateByte.getLsbD 5 = u.alertLow ∧
    u.stateByte.toNat / 4 % 8 = verdictCode u.verdict ∧ u.stateByte.toNat % 4 = u.state.code := by
  have v : verdictCode u.verdict ≤ 4 := by rcases u.verdict with - | (- | - | - | -) <;> decide
  have st : u.state.code ≤ 2 := by cases u.state <;> decide
  simp only [getLsbD_eq_decide, stateByte_toNat, decide_eq_true_eq, decide_eq_false_iff_not]
  cases u.alertLow <;> simp only [Bool.toNat_true, Bool.toNat_false, decide_eq_true_eq, decide_eq_false_iff_not] <;>
    refine ⟨?_, ?_, ?_, ?_, ?_⟩ <;> omega

/-- Settles O16: what a read sends and leaves, by the port's state and the bytes clocked, and the state byte's number. -/
theorem readsDeliverResponses : Obligations.ReadsDeliverResponses := by
  refine ⟨fun s n hr hi => ⟨fun hs => ?_, fun r hs hresp => ⟨?_, fun hn => ?_⟩⟩,
    fun s n hr hi => ⟨fun address h => ?_, fun hs => ?_, fun r hs hresp => ⟨?_, fun hn => ?_⟩⟩, fun u => ?_⟩
  · obtain ⟨sent, left⟩ := sent_of_not_ready hs n
    rw [exec_readTransaction hr hi, sent, left]
  · obtain ⟨sent, left⟩ := sent_whole hs hresp n
    rw [exec_readTransaction hr hi, sent, left]; rfl
  · obtain ⟨sent, left⟩ := sent_part hs hresp hn
    rw [exec_readTransaction hr hi, sent, left]
  · simp [exec, execI2cReadTransaction, hr, hi, h]
  · obtain ⟨sent, left⟩ := sent_of_not_ready hs n
    rw [exec_i2cRead hr hi, sent, left]
  · obtain ⟨sent, left⟩ := sent_whole hs hresp n
    rw [exec_i2cRead hr hi, sent, left]
  · obtain ⟨sent, left⟩ := sent_part hs hresp hn
    rw [exec_i2cRead hr hi, sent, left]
  · exact stateByte_fields u

end Sys2Proof.Proofs
end

section
/-! SUPPORT. The request payloads: each reader on the bytes its item spells, and when it has no value (R197, R199). -/

namespace Sys2Proof.Proofs

open Sys2Proof Sys2Proof.Machine Sys2Proof.Safety Sys2Proof.Laws

/-! ## Bytes and the numbers they spell -/

theorem byte_toNat {n : Nat} (h : n < 256) : (BitVec.ofNat 8 n).toNat = n := by
  rw [BitVec.toNat_ofNat]; omega

/-- A two-byte item is read back. -/
theorem read16_put16 {n : Nat} (h : n < 65536) : read16 (BitVec.ofNat 8 (n / 256)) (BitVec.ofNat 8 n) = n := by
  simp only [read16, BitVec.toNat_ofNat]; omega

/-- A three-byte item is read back. -/
theorem read24_put24 {n : Nat} (h : n < 16777216) :
    read24 (BitVec.ofNat 8 (n / 65536)) (BitVec.ofNat 8 (n / 256)) (BitVec.ofNat 8 n) = n := by
  simp only [read24, BitVec.toNat_ofNat]; omega

theorem channelOf_put (ch : Channel) : channelOf (BitVec.ofNat 8 ch.val) = some ch :=
  channelOf_of_val (byte_toNat (by omega)).symm

theorem channelOf_none {b : Byte} : channelOf b = none ↔ 16 ≤ b.toNat := by
  unfold channelOf; split <;> simp <;> omega

theorem priorityOf_put (pr : Priority) : priorityOf (BitVec.ofNat 8 pr.val) = some pr := by
  have : (BitVec.ofNat 8 pr.val).toNat = pr.val := byte_toNat (by omega)
  simp [priorityOf, this]

theorem priorityOf_none {b : Byte} : priorityOf b = none ↔ 8 ≤ b.toNat := by
  unfold priorityOf; split <;> simp <;> omega

theorem segmentOf_put (s : Segment) : segmentOf (BitVec.ofNat 8 s.val) = some s := by
  have : (BitVec.ofNat 8 s.val).toNat = s.val := byte_toNat (by omega)
  simp [segmentOf, this]

theorem segmentOf_none {b : Byte} : segmentOf b = none ↔ 64 ≤ b.toNat := by
  unfold segmentOf; split <;> simp <;> omega

theorem tierOf_put (t : Tier) : tierOf (BitVec.ofNat 8 t.val) = some t := by
  have : (BitVec.ofNat 8 t.val).toNat = t.val := byte_toNat (by omega)
  simp [tierOf, this]

theorem tierOf_none {b : Byte} : tierOf b = none ↔ 3 < b.toNat := by
  unfold tierOf; split <;> simp <;> omega

theorem dutyOf_put {n : Nat} (h : n < 65536) :
    dutyOf (BitVec.ofNat 8 (n / 256)) (BitVec.ofNat 8 n) = if n ≤ 2048 then some n else none := by
  rw [dutyOf, read16_put16 h]; rfl

theorem handleOf_put {n : Nat} (h : n < 65536) :
    handleOf (BitVec.ofNat 8 (n / 256)) (BitVec.ofNat 8 n) = if n ≤ 511 then some n else none := by
  rw [handleOf, read16_put16 h]; rfl

theorem rateOf_put {n : Nat} (h : n < 65536) : rateOf (BitVec.ofNat 8 (n / 256)) (BitVec.ofNat 8 n) =
    if n ≤ 256 then some (if n = 256 then .profileDefault else .steps n) else none := by
  rw [rateOf, read16_put16 h]
  show (if n < 256 then some (RateArg.steps n) else if n = 256 then some .profileDefault else none) = _
  rcases Nat.lt_trichotomy n 256 with lt | rfl | gt
  · rw [if_pos lt, if_pos lt.le, if_neg lt.ne]
  · rfl
  · rw [if_neg (by omega), if_neg (by omega), if_neg (by omega)]

/-! ## Flag bytes -/

theorem onlyBits_grant : ∀ fl : Byte, onlyBits fl 0x0F = decide (fl.toNat < 16) := by decide
theorem onlyBits_adjust : ∀ fl : Byte, onlyBits fl 0x0C = decide (fl.toNat < 16 ∧ fl.toNat % 4 = 0) := by decide
theorem onlyBits_profile : ∀ fl : Byte, onlyBits fl 0x1F = decide (fl.toNat < 32) := by decide
theorem onlyBits_monitor : ∀ fl : Byte, onlyBits fl 0x07 = decide (fl.toNat < 8) := by decide

/-- A byte made of five flags. -/
def flagByte (a b c d e : Bool) : Byte :=
  BitVec.ofNat 8 (a.toNat + 2 * b.toNat + 4 * c.toNat + 8 * d.toNat + 16 * e.toNat)

theorem flagByte_bits : ∀ a b c d e : Bool, (flagByte a b c d e).getLsbD 0 = a ∧ (flagByte a b c d e).getLsbD 1 = b ∧
    (flagByte a b c d e).getLsbD 2 = c ∧ (flagByte a b c d e).getLsbD 3 = d ∧ (flagByte a b c d e).getLsbD 4 = e := by
  decide

theorem flagByte_toNat (a b c d e : Bool) : (flagByte a b c d e).toNat =
    a.toNat + 2 * b.toNat + 4 * c.toNat + 8 * d.toNat + 16 * e.toNat := by
  have := Bool.toNat_le a
  have := Bool.toNat_le b
  have := Bool.toNat_le c
  have := Bool.toNat_le d
  have := Bool.toNat_le e
  exact byte_toNat (by omega)

/-! ## GRANT, ADJUST, ACK and the handles -/

section
variable (ch pr d1 d0 r1 r0 len fl h1 h0 : Byte)

theorem readGrant_of {channel : Channel} {priority : Priority} {duty : Nat} {rate : RateArg} (hch : channelOf ch = some channel)
    (hpr : priorityOf pr = some priority) (hd : dutyOf d1 d0 = some duty) (hr : rateOf r1 r0 = some rate)
    (hfl : onlyBits fl 0x0F = true) : readGrant [ch, pr, d1, d0, r1, r0, len, fl] =
      some { channel, priority, duty, rate, leaseLength := len.toNat, preempt := fl.getLsbD 0, wait := fl.getLsbD 1,
             allowRepack := fl.getLsbD 2, rampNotify := fl.getLsbD 3 } := by
  simp only [readGrant, hch, hpr, hd, hr, hfl]

theorem readGrant_none : readGrant [ch, pr, d1, d0, r1, r0, len, fl] = none ↔
    channelOf ch = none ∨ priorityOf pr = none ∨ dutyOf d1 d0 = none ∨ rateOf r1 r0 = none ∨ onlyBits fl 0x0F = false := by
  simp only [readGrant]
  cases channelOf ch with
  | none => simp
  | some channel =>
    cases priorityOf pr with
    | none => simp
    | some priority =>
      cases dutyOf d1 d0 with
      | none => simp
      | some duty =>
        cases rateOf r1 r0 with
        | none => simp
        | some rate => cases onlyBits fl 0x0F <;> simp

theorem readAdjust_of {handle target : Nat} {rate : RateArg} (hh : handleOf h1 h0 = some handle)
    (hd : dutyOf d1 d0 = some target) (hr : rateOf r1 r0 = some rate) (hfl : onlyBits fl 0x0C = true) :
    readAdjust [h1, h0, d1, d0, r1, r0, fl] =
      some { handle, target, rate, allowRepack := fl.getLsbD 2, rampNotify := fl.getLsbD 3 } := by
  simp only [readAdjust, hh, hd, hr, hfl]

theorem readAdjust_none : readAdjust [h1, h0, d1, d0, r1, r0, fl] = none ↔
    handleOf h1 h0 = none ∨ dutyOf d1 d0 = none ∨ rateOf r1 r0 = none ∨ onlyBits fl 0x0C = false := by
  simp only [readAdjust]
  cases handleOf h1 h0 with
  | none => simp
  | some handle =>
    cases dutyOf d1 d0 with
    | none => simp
    | some duty =>
      cases rateOf r1 r0 with
      | none => simp
      | some rate => cases onlyBits fl 0x0C <;> simp

theorem readAck_of {handle : Nat} (hh : handleOf h1 h0 = some handle) (hfl : onlyBits fl 0x1F = true) :
    readAck [h1, h0, fl] = some (handle, noticesOf fl) := by
  simp only [readAck, hh, hfl]

theorem readAck_none : readAck [h1, h0, fl] = none ↔ handleOf h1 h0 = none ∨ onlyBits fl 0x1F = false := by
  simp only [readAck]
  cases handleOf h1 h0 with
  | none => simp
  | some handle => cases onlyBits fl 0x1F <;> simp

end

theorem readGrant_put (ch : Channel) (pr : Priority) {duty rate : Nat} (len : Byte) (preempt wait repack notify : Bool)
    (hd : duty ≤ 2048) (hr : rate ≤ 256) :
    readGrant (put8 ch.val ++ put8 pr.val ++ put16 duty ++ put16 rate ++ [len] ++
        put8 (preempt.toNat + 2 * wait.toNat + 4 * repack.toNat + 8 * notify.toNat)) =
      some { channel := ch, priority := pr, duty := duty, rate := if rate = 256 then .profileDefault else .steps rate,
             leaseLength := len.toNat, preempt := preempt, wait := wait, allowRepack := repack, rampNotify := notify } := by
  have flags : BitVec.ofNat 8 (preempt.toNat + 2 * wait.toNat + 4 * repack.toNat + 8 * notify.toNat) =
      flagByte preempt wait repack notify false := rfl
  obtain ⟨b0, b1, b2, b3, -⟩ := flagByte_bits preempt wait repack notify false
  have low : onlyBits (flagByte preempt wait repack notify false) 0x0F = true := by
    have := Bool.toNat_le preempt
    have := Bool.toNat_le wait
    have := Bool.toNat_le repack
    have := Bool.toNat_le notify
    rw [onlyBits_grant, flagByte_toNat, decide_eq_true_eq]
    simp only [Bool.toNat_false]; omega
  have read := readGrant_of _ _ _ _ _ _ len _ (channelOf_put ch) (priorityOf_put pr)
    ((dutyOf_put (by omega)).trans (if_pos hd)) ((rateOf_put (by omega)).trans (if_pos hr)) low
  rw [b0, b1, b2, b3] at read
  simpa only [put8, put16, List.cons_append, List.nil_append, flags] using read

theorem readAdjust_put {handle target rate : Nat} (repack notify : Bool) (hh : handle ≤ 511) (hd : target ≤ 2048)
    (hr : rate ≤ 256) :
    readAdjust (put16 handle ++ put16 target ++ put16 rate ++ put8 (4 * repack.toNat + 8 * notify.toNat)) =
      some { handle := handle, target := target, rate := if rate = 256 then .profileDefault else .steps rate,
             allowRepack := repack, rampNotify := notify } := by
  have flags : BitVec.ofNat 8 (4 * repack.toNat + 8 * notify.toNat) = flagByte false false repack notify false := by
    simp [flagByte]
  obtain ⟨-, -, b2, b3, -⟩ := flagByte_bits false false repack notify false
  have low : onlyBits (flagByte false false repack notify false) 0x0C = true := by
    have := Bool.toNat_le repack
    have := Bool.toNat_le notify
    rw [onlyBits_adjust, flagByte_toNat, decide_eq_true_eq]
    simp only [Bool.toNat_false]; omega
  have read := readAdjust_of _ _ _ _ _ _ _ ((handleOf_put (by omega)).trans (if_pos hh))
    ((dutyOf_put (by omega)).trans (if_pos hd)) ((rateOf_put (by omega)).trans (if_pos hr)) low
  rw [b2, b3] at read
  simpa only [put8, put16, List.cons_append, List.nil_append, flags] using read

theorem readHandle_put {handle : Nat} (h : handle < 65536) :
    readHandle (put16 handle) = if handle ≤ 511 then some handle else none := handleOf_put h

theorem readAck_put {handle : Nat} (admitted shed preempted rampDone closed : Bool) (hh : handle ≤ 511) :
    readAck (put16 handle ++ put8 (admitted.toNat + 2 * shed.toNat + 4 * preempted.toNat + 8 * rampDone.toNat +
        16 * closed.toNat)) =
      some (handle, { admitted := admitted, shed := shed, preempted := preempted, rampDone := rampDone,
                      closed := closed }) := by
  have flags : BitVec.ofNat 8 (admitted.toNat + 2 * shed.toNat + 4 * preempted.toNat + 8 * rampDone.toNat +
      16 * closed.toNat) = flagByte admitted shed preempted rampDone closed := rfl
  obtain ⟨b0, b1, b2, b3, b4⟩ := flagByte_bits admitted shed preempted rampDone closed
  have low : onlyBits (flagByte admitted shed preempted rampDone closed) 0x1F = true := by
    have := Bool.toNat_le admitted
    have := Bool.toNat_le shed
    have := Bool.toNat_le preempted
    have := Bool.toNat_le rampDone
    have := Bool.toNat_le closed
    rw [onlyBits_profile, flagByte_toNat, decide_eq_true_eq]; omega
  have read := readAck_of _ _ _ ((handleOf_put (n := handle) (by omega)).trans (if_pos hh)) low
  simpa only [put8, put16, List.cons_append, List.nil_append, flags, noticesOf, b0, b1, b2, b3, b4] using read

/-! ## The profile record -/

section
variable (fl cur m1 m0 home ramp : Byte)

/-- The ranges of a profile record's numbers (R178). -/
def ProfileInRange (cur m1 m0 : Byte) : Prop :=
  1 ≤ cur.toNat ∧ cur.toNat ≤ 250 ∧ 1 ≤ read16 m1 m0 ∧ read16 m1 m0 ≤ 2048

theorem readProfileRecord_of {segment : Segment} (hfl : onlyBits fl 0x1F = true) (hhome : segmentOf home = some segment)
    (hrange : ProfileInRange cur m1 m0) : readProfileRecord [fl, cur, m1, m0, home, ramp] =
      some { enabled := fl.getLsbD 0, drive := if fl.getLsbD 1 then .openDrain else .pushPull,
             polarity := if fl.getLsbD 2 then .activeLow else .activeHigh, current := cur.toNat,
             maxDuty := read16 m1 m0, home := segment, pinned := fl.getLsbD 3, defaultRamp := ramp.toNat,
             readback := fl.getLsbD 4 } := by
  simp only [readProfileRecord]
  simp only [hfl, hhome]
  exact if_pos hrange

theorem readProfileRecord_none : readProfileRecord [fl, cur, m1, m0, home, ramp] = none ↔
    onlyBits fl 0x1F = false ∨ segmentOf home = none ∨ ¬ ProfileInRange cur m1 m0 := by
  simp only [readProfileRecord]
  cases onlyBits fl 0x1F with
  | false => simp
  | true =>
    cases segmentOf home with
    | none => simp
    | some segment =>
      dsimp only
      rw [ite_eq_right_iff]
      simp [ProfileInRange, Config.maxCurrent, Config.maxDuty]

theorem readSetProfile_none (ch : Byte) (record : List Byte) : readSetProfile (ch :: record) = none ↔
    channelOf ch = none ∨ readProfileRecord record = none := by
  simp only [readSetProfile]
  cases channelOf ch with
  | none => simp
  | some channel => cases readProfileRecord record <;> simp

end

/-- The bits of a profile record's flag byte. -/
theorem profile_flags (p : Profile) :
    p.enabled.toNat + (if p.drive = .openDrain then 2 else 0) + (if p.polarity = .activeLow then 4 else 0) +
        8 * p.pinned.toNat + 16 * p.readback.toNat =
      p.enabled.toNat + 2 * (decide (p.drive = .openDrain)).toNat + 4 * (decide (p.polarity = .activeLow)).toNat +
        8 * p.pinned.toNat + 16 * p.readback.toNat := by
  cases p.drive <;> cases p.polarity <;> simp

/-- A profile record written is read back (R179). -/
theorem readProfileRecord_put (p : Profile) (hc : 1 ≤ p.current) (hc' : p.current ≤ 250) (hm : 1 ≤ p.maxDuty)
    (hm' : p.maxDuty ≤ 2048) (hd : p.defaultRamp ≤ 255) : readProfileRecord (profileRecord p) = some p := by
  have flags : BitVec.ofNat 8 (p.enabled.toNat + (if p.drive = .openDrain then 2 else 0) +
      (if p.polarity = .activeLow then 4 else 0) + 8 * p.pinned.toNat + 16 * p.readback.toNat) =
      flagByte p.enabled (decide (p.drive = .openDrain)) (decide (p.polarity = .activeLow)) p.pinned p.readback := by
    rw [profile_flags]; rfl
  obtain ⟨b0, b1, b2, b3, b4⟩ := flagByte_bits p.enabled (decide (p.drive = .openDrain))
    (decide (p.polarity = .activeLow)) p.pinned p.readback
  have low : onlyBits (flagByte p.enabled (decide (p.drive = .openDrain)) (decide (p.polarity = .activeLow)) p.pinned
      p.readback) 0x1F = true := by
    have := Bool.toNat_le p.enabled
    have := Bool.toNat_le (decide (p.drive = .openDrain))
    have := Bool.toNat_le (decide (p.polarity = .activeLow))
    have := Bool.toNat_le p.pinned
    have := Bool.toNat_le p.readback
    rw [onlyBits_profile, flagByte_toNat, decide_eq_true_eq]; omega
  have duty : read16 (BitVec.ofNat 8 (p.maxDuty / 256)) (BitVec.ofNat 8 p.maxDuty) = p.maxDuty := read16_put16 (by omega)
  have current : (BitVec.ofNat 8 p.current).toNat = p.current := byte_toNat (by omega)
  have ramp : (BitVec.ofNat 8 p.defaultRamp).toNat = p.defaultRamp := byte_toNat (by omega)
  have read := readProfileRecord_of _ (BitVec.ofNat 8 p.current) _ _ _ (BitVec.ofNat 8 p.defaultRamp) low
    (segmentOf_put p.home) (by rw [ProfileInRange, duty, current]; omega)
  rw [b0, b1, b2, b3, b4, duty, current, ramp] at read
  have drive : (if decide (p.drive = .openDrain) = true then Drive.openDrain else .pushPull) = p.drive := by
    cases p.drive <;> rfl
  have polarity : (if decide (p.polarity = .activeLow) = true then Polarity.activeLow else .activeHigh) = p.polarity := by
    cases p.polarity <;> rfl
  rw [drive, polarity] at read
  simpa only [profileRecord, put8, put16, List.cons_append, List.nil_append, flags] using read

theorem readSetProfile_put (ch : Channel) {record : List Byte} {p : Profile} (h : readProfileRecord record = some p) :
    readSetProfile (put8 ch.val ++ record) = some (ch, p) := by
  show readSetProfile (BitVec.ofNat 8 ch.val :: record) = _
  simp only [readSetProfile, channelOf_put, h]

/-! ## The tier table and the monitor settings -/

theorem ceilingsOf_put {peak charge : Nat} (hp : peak < 65536) (hc : charge < 16777216) :
    ceilingsOf (BitVec.ofNat 8 (peak / 256)) (BitVec.ofNat 8 peak) (BitVec.ofNat 8 (charge / 65536))
      (BitVec.ofNat 8 (charge / 256)) (BitVec.ofNat 8 charge) =
      if peak ≤ 4000 ∧ charge ≤ 256000 then some ⟨peak, charge⟩ else none := by
  unfold ceilingsOf
  rw [read16_put16 hp, read24_put24 hc]; rfl

theorem readTiers_put {p0 c0 p1 c1 p2 c2 : Nat} (hp0 : p0 < 65536) (hc0 : c0 < 16777216) (hp1 : p1 < 65536)
    (hc1 : c1 < 16777216) (hp2 : p2 < 65536) (hc2 : c2 < 16777216) :
    readTiers (put16 p0 ++ put24 c0 ++ put16 p1 ++ put24 c1 ++ put16 p2 ++ put24 c2) =
      if (p0 ≤ 4000 ∧ c0 ≤ 256000) ∧ (p1 ≤ 4000 ∧ c1 ≤ 256000) ∧ (p2 ≤ 4000 ∧ c2 ≤ 256000) then
        some ⟨⟨p0, c0⟩, ⟨p1, c1⟩, ⟨p2, c2⟩⟩
      else none := by
  simp only [put16, put24, List.cons_append, List.nil_append, readTiers, ceilingsOf_put hp0 hc0, ceilingsOf_put hp1 hc1,
    ceilingsOf_put hp2 hc2]
  by_cases h0 : p0 ≤ 4000 ∧ c0 ≤ 256000
  · by_cases h1 : p1 ≤ 4000 ∧ c1 ≤ 256000
    · by_cases h2 : p2 ≤ 4000 ∧ c2 ≤ 256000 <;> simp [h0, h1, h2]
    · simp [h0, h1]
  · simp [h0]

section
variable (fl t1 t2 t3 h nd u1 u0 m0 m1 : Byte)

/-- The ranges of the monitor settings' numbers (R181). -/
def MonitorInRange (t1 t2 t3 h nd u1 u0 : Byte) : Prop :=
  t1.toNat ≤ 63 ∧ t2.toNat < t1.toNat ∧ t3.toNat < t2.toNat ∧ 1 ≤ t3.toNat ∧ h.toNat ≤ 7 ∧
    1 ≤ nd.toNat ∧ nd.toNat ≤ 15 ∧ 1 ≤ read16 u1 u0 ∧ read16 u1 u0 ≤ 4095

theorem readMonitor_of {min0 min1 : Tier} (hfl : onlyBits fl 0x07 = true) (h0 : tierOf m0 = some min0)
    (h1 : tierOf m1 = some min1) (hrange : MonitorInRange t1 t2 t3 h nd u1 u0) :
    readMonitor [fl, t1, t2, t3, h, nd, u1, u0, m0, m1] =
      some { enabled := fl.getLsbD 0, t1 := t1.toNat, t2 := t2.toNat, t3 := t3.toNat, hysteresis := h.toNat,
             nDown := nd.toNat, holdOff := read16 u1 u0, limit0 := ⟨fl.getLsbD 1, min0⟩,
             limit1 := ⟨fl.getLsbD 2, min1⟩ } := by
  simp only [readMonitor]
  simp only [hfl, h0, h1]
  exact if_pos hrange

theorem readMonitor_none : readMonitor [fl, t1, t2, t3, h, nd, u1, u0, m0, m1] = none ↔
    onlyBits fl 0x07 = false ∨ tierOf m0 = none ∨ tierOf m1 = none ∨ ¬ MonitorInRange t1 t2 t3 h nd u1 u0 := by
  simp only [readMonitor]
  cases onlyBits fl 0x07 with
  | false => simp
  | true =>
    cases tierOf m0 with
    | none => simp
    | some min0 =>
      cases tierOf m1 with
      | none => simp
      | some min1 =>
        dsimp only
        rw [ite_eq_right_iff]
        simp [MonitorInRange]

end

theorem readMonitor_put (m : Monitor) (h3 : 1 ≤ m.t3) (h23 : m.t3 < m.t2) (h12 : m.t2 < m.t1) (h1 : m.t1 ≤ 63)
    (hh : m.hysteresis ≤ 7) (hn : 1 ≤ m.nDown) (hn' : m.nDown ≤ 15) (ho : 1 ≤ m.holdOff) (ho' : m.holdOff ≤ 4095) :
    readMonitor (put8 (m.enabled.toNat + 2 * m.limit0.activeLow.toNat + 4 * m.limit1.activeLow.toNat) ++ put8 m.t1 ++
      put8 m.t2 ++ put8 m.t3 ++ put8 m.hysteresis ++ put8 m.nDown ++ put16 m.holdOff ++ put8 m.limit0.minTier.val ++
      put8 m.limit1.minTier.val) = some m := by
  have flags : BitVec.ofNat 8 (m.enabled.toNat + 2 * m.limit0.activeLow.toNat + 4 * m.limit1.activeLow.toNat) =
      flagByte m.enabled m.limit0.activeLow m.limit1.activeLow false false := rfl
  obtain ⟨b0, b1, b2, -, -⟩ := flagByte_bits m.enabled m.limit0.activeLow m.limit1.activeLow false false
  have low : onlyBits (flagByte m.enabled m.limit0.activeLow m.limit1.activeLow false false) 0x07 = true := by
    have := Bool.toNat_le m.enabled
    have := Bool.toNat_le m.limit0.activeLow
    have := Bool.toNat_le m.limit1.activeLow
    rw [onlyBits_monitor, flagByte_toNat, decide_eq_true_eq]
    simp only [Bool.toNat_false]; omega
  have e1 : (BitVec.ofNat 8 m.t1).toNat = m.t1 := byte_toNat (by omega)
  have e2 : (BitVec.ofNat 8 m.t2).toNat = m.t2 := byte_toNat (by omega)
  have e3 : (BitVec.ofNat 8 m.t3).toNat = m.t3 := byte_toNat (by omega)
  have eh : (BitVec.ofNat 8 m.hysteresis).toNat = m.hysteresis := byte_toNat (by omega)
  have en : (BitVec.ofNat 8 m.nDown).toNat = m.nDown := byte_toNat (by omega)
  have eo : read16 (BitVec.ofNat 8 (m.holdOff / 256)) (BitVec.ofNat 8 m.holdOff) = m.holdOff := read16_put16 (by omega)
  have read := readMonitor_of _ (BitVec.ofNat 8 m.t1) (BitVec.ofNat 8 m.t2) (BitVec.ofNat 8 m.t3)
    (BitVec.ofNat 8 m.hysteresis) (BitVec.ofNat 8 m.nDown) (BitVec.ofNat 8 (m.holdOff / 256)) (BitVec.ofNat 8 m.holdOff)
    _ _ low (tierOf_put m.limit0.minTier) (tierOf_put m.limit1.minTier)
    (by rw [MonitorInRange, e1, e2, e3, eh, en, eo]; omega)
  rw [b0, b1, b2, e1, e2, e3, eh, en, eo] at read
  simpa only [put8, put16, List.cons_append, List.nil_append, flags] using read

/-- Settles O13: each reader on the bytes its item spells, and where it has no value. -/
theorem payloadsReadAsLaidOut : Obligations.PayloadsReadAsLaidOut := by
  refine ⟨fun p hc hc' hm hm' hd => ?_, fun ch pr duty rate len a b c d hd hr => readGrant_put ch pr len a b c d hd hr,
    fun handle target rate a b hh hd hr => readAdjust_put a b hh hd hr, fun handle a b c d e hh => ⟨?_, ?_⟩,
    fun t hp0 hp1 hp2 hc0 hc1 hc2 => ?_, fun m h3 h23 h12 h1 hh hn hn' ho ho' =>
      readMonitor_put m h3 h23 h12 h1 hh hn hn' ho ho', fun n => ⟨?_, ?_⟩, fun d l => rfl,
    fun handle duty rate ch pr len flags hh hd hr => ⟨?_, ?_, ?_, ?_⟩, fun ch flags current home ramp duty hd => ?_,
    fun p0 c0 p1 c1 p2 c2 hp0 hp1 hp2 hc0 hc1 hc2 => ?_, fun flags t1 t2 t3 h nd m0 m1 holdOff ho => ?_⟩
  · have read := readProfileRecord_put p hc hc' hm hm' hd
    exact ⟨read, fun ch => readSetProfile_put ch read⟩
  · rw [readHandle_put (by omega), if_pos hh]
  · exact readAck_put a b c d e hh
  · rw [readTiers_put (by omega) (by omega) (by omega) (by omega) (by omega) (by omega)]
    exact if_pos ⟨⟨hp0, hc0⟩, ⟨hp1, hc1⟩, hp2, hc2⟩
  · simp only [readClient, clientOf]; split <;> rfl
  · simp only [readChannel, channelOf]; split <;> rfl
  · rw [readHandle_put hh]; simp
  · show readGrant [_, _, _, _, _, _, _, _] = none ↔ _
    rw [readGrant_none, channelOf_none, priorityOf_none, dutyOf_put hd, rateOf_put hr, onlyBits_grant]
    simp
  · show readAdjust [_, _, _, _, _, _, _] = none ↔ _
    rw [readAdjust_none, handleOf_put hh, dutyOf_put hd, rateOf_put hr, onlyBits_adjust]
    simp; omega
  · show readAck [_, _, _] = none ↔ _
    rw [readAck_none, handleOf_put hh, onlyBits_profile]
    simp
  · show readSetProfile (_ :: [_, _, _, _, _, _]) = none ↔ _
    rw [readSetProfile_none, readProfileRecord_none, channelOf_none, segmentOf_none, onlyBits_profile, ProfileInRange,
      read16_put16 hd, decide_eq_false_iff_not]
    omega
  · rw [readTiers_put hp0 hc0 hp1 hc1 hp2 hc2, ite_eq_right_iff]
    simp only [reduceCtorEq, imp_false]
    omega
  · show readMonitor [_, _, _, _, _, _, _, _, _, _] = none ↔ _
    rw [readMonitor_none, tierOf_none, tierOf_none, onlyBits_monitor, MonitorInRange, read16_put16 ho,
      decide_eq_false_iff_not]
    omega

end Sys2Proof.Proofs
end

section
/-! SUPPORT. The checks of a handle in their order, and the requests that read: QUERY, LIST, MAP_READ and STATUS (R16, R26 to R29, R47,
R48, R183). -/

namespace Sys2Proof.Proofs

open Sys2Proof Sys2Proof.Machine Sys2Proof.Safety Sys2Proof.Laws

/-! ## A request served -/

section
variable {s : State} {p : Port} {client : Byte} {payload : List Byte} {who : Client}

theorem exec_adjust (h : Served s p client 0x02 payload who) : exec (.adjust p client payload) s =
    .next (adjustEvent payload ⟨p, who, client, 0x02⟩ (s.markTaken p ⟨client, 0x02, payload⟩)) :=
  congrArg Host.Outcome.next (runRequest_served h _)
theorem exec_renew (h : Served s p client 0x03 payload who) : exec (.renew p client payload) s =
    .next (renewEvent payload ⟨p, who, client, 0x03⟩ (s.markTaken p ⟨client, 0x03, payload⟩)) :=
  congrArg Host.Outcome.next (runRequest_served h _)
theorem exec_release (h : Served s p client 0x04 payload who) : exec (.release p client payload) s =
    .next (releaseEvent payload ⟨p, who, client, 0x04⟩ (s.markTaken p ⟨client, 0x04, payload⟩)) :=
  congrArg Host.Outcome.next (runRequest_served h _)
theorem exec_ack (h : Served s p client 0x05 payload who) : exec (.ack p client payload) s =
    .next (ackEvent payload ⟨p, who, client, 0x05⟩ (s.markTaken p ⟨client, 0x05, payload⟩)) :=
  congrArg Host.Outcome.next (runRequest_served h _)
theorem exec_revoke (h : Served s p client 0x06 payload who) : exec (.revoke p client payload) s =
    .next (revokeEvent payload ⟨p, who, client, 0x06⟩ (s.markTaken p ⟨client, 0x06, payload⟩)) :=
  congrArg Host.Outcome.next (runRequest_served h _)
theorem exec_query (h : Served s p client 0x10 payload who) : exec (.query p client payload) s =
    .next (queryEvent payload ⟨p, who, client, 0x10⟩ (s.markTaken p ⟨client, 0x10, payload⟩)) :=
  congrArg Host.Outcome.next (runRequest_served h _)
theorem exec_list (h : Served s p client 0x11 payload who) : exec (.list p client payload) s =
    .next (listEvent payload ⟨p, who, client, 0x11⟩ (s.markTaken p ⟨client, 0x11, payload⟩)) :=
  congrArg Host.Outcome.next (runRequest_served h _)
theorem exec_mapRead (h : Served s p client 0x12 payload who) : exec (.mapRead p client payload) s =
    .next (mapReadEvent payload ⟨p, who, client, 0x12⟩ (s.markTaken p ⟨client, 0x12, payload⟩)) :=
  congrArg Host.Outcome.next (runRequest_served h _)
theorem exec_status (h : Served s p client 0x13 payload who) : exec (.status p client payload) s =
    .next (answer ⟨p, who, client, 0x13⟩ .ok (statusPayload (s.markTaken p ⟨client, 0x13, payload⟩))
      (s.markTaken p ⟨client, 0x13, payload⟩)) :=
  congrArg Host.Outcome.next (runRequest_served h _)

end

theorem markTaken_running (s : State) (p : Port) (r : Request) : (s.markTaken p r).running = s.running := by
  simp [State.running]

theorem running_of_mode {s : State} (h : s.config.mode = .run) : s.running = true := running_iff.2 h
theorem not_running_of_mode {s : State} (h : s.config.mode ≠ .run) : s.running = false := by
  simpa [State.running] using h

/-! ## The checks of a handle (R16) -/

/-- The request's rule begins with the checks of a handle; `owned` says that it asks for the owner, `living` that it refuses a
CLOSED grant. -/
structure HandleRule (s : State) (t : Taken) (event : State) (handle : Option Nat) (owned living : Prop) : Prop where
  rule : ∃ body, event = withHandle handle t body s ∧
    (owned → ∀ n i g, g.owner ≠ t.who → body n i g = answer t .notOwner [] s) ∧
    (living → ∀ n i g reason, g.owner = t.who → g.state = .closed reason → body n i g = answer t (.closed reason) [] s)

section
variable (payload : List Byte) (t : Taken) (s : State)

theorem adjustEvent_rule :
    HandleRule s t (adjustEvent payload t s) ((readAdjust payload).map AdjustArgs.handle) True True :=
  ⟨_, rfl, fun _ _ _ _ ho => ownerOnly_other ho _ _,
    fun _ _ _ _ _ ho hc => (ownerOnly_owner ho _ _).trans (refuseClosed_closed hc _ _)⟩

theorem renewEvent_rule : HandleRule s t (renewEvent payload t s) (readHandle payload) True True :=
  ⟨_, rfl, fun _ _ _ _ ho => ownerOnly_other ho _ _,
    fun _ _ _ _ _ ho hc => (ownerOnly_owner ho _ _).trans (refuseClosed_closed hc _ _)⟩

theorem releaseEvent_rule : HandleRule s t (releaseEvent payload t s) (readHandle payload) True False :=
  ⟨_, rfl, fun _ _ _ _ ho => ownerOnly_other ho _ _, False.elim⟩

theorem ackEvent_rule : HandleRule s t (ackEvent payload t s) ((readAck payload).map Prod.fst) True False :=
  ⟨_, rfl, fun _ _ _ _ ho => ownerOnly_other ho _ _, False.elim⟩

theorem revokeEvent_rule : HandleRule s t (revokeEvent payload t s) (readHandle payload) False False :=
  ⟨_, rfl, False.elim, False.elim⟩

theorem queryEvent_rule : HandleRule s t (queryEvent payload t s) (readHandle payload) False False :=
  ⟨_, rfl, False.elim, False.elim⟩

end

/-- The checks of a handle rule, in their order. -/
theorem HandleRule.checks {s : State} {p : Port} {client code : Byte} {payload : List Byte} {who : Client} {event : State}
    {handle : Option Nat} {owned living asksOwner asksLiving : Prop} {o : Host.Outcome State Fault Refusal}
    (h : HandleRule (s.markTaken p ⟨client, code, payload⟩) ⟨p, who, client, code⟩ event handle owned living)
    (hexec : o = .next event) (howned : asksOwner → owned) (hliving : asksLiving → living) :
    (s.config.mode ≠ .run → o = .next (answeredState s p client code .wrongMode [])) ∧
    (s.config.mode = .run → handle = none → o = .next (answeredState s p client code .badArg [])) ∧
    ∀ n, s.config.mode = .run → handle = some n →
      (s.ctl.lookup n = none → o = .next (answeredState s p client code .stale [])) ∧
      ∀ i g, s.ctl.lookup n = some (i, g) →
        (asksOwner → g.owner ≠ who → o = .next (answeredState s p client code .notOwner [])) ∧
        (asksLiving → g.owner = who → ∀ reason, g.state = .closed reason →
          o = .next (answeredState s p client code (.closed reason) [])) := by
  obtain ⟨body, rfl, hown, hliv⟩ := h
  have runs : s.config.mode = .run → (s.markTaken p ⟨client, code, payload⟩).running = true := fun hm => by
    rw [markTaken_running, running_of_mode hm]
  rw [hexec]
  refine ⟨fun hm => ?_, fun hm hn => ?_, fun n hm hn => ⟨fun hl => ?_, fun i g hl => ⟨fun ask ho => ?_, fun ask ho reason hc => ?_⟩⟩⟩
  · rw [withHandle_wrongMode (by rw [markTaken_running, not_running_of_mode hm]), answer_markTaken]
  · rw [hn, withHandle_badArg (runs hm), answer_markTaken]
  · rw [hn, withHandle_stale (runs hm) (by rwa [markTaken_ctl]), answer_markTaken]
  · rw [hn, withHandle_named (runs hm) (by rwa [markTaken_ctl]), hown (howned ask) _ _ _ ho, answer_markTaken]
  · rw [hn, withHandle_named (runs hm) (by rwa [markTaken_ctl]), hliv (hliving ask) _ _ _ _ ho hc, answer_markTaken]

/-- The handle of the slot's present occupant is at most 511. -/
theorem handleValue_le (i : SlotIx) (n : Generation) : handleValue i n ≤ 511 := by
  have := i.isLt
  have := n.isLt
  unfold handleValue; omega

/-- Settles O19: each request's rule begins with the checks of its handle; and a grant is named by the handle of its slot and
generation alone. -/
theorem handleChecksInOrder : Obligations.HandleChecksInOrder := by
  refine ⟨fun s p client code payload who hcode hserved => ?_, fun c => ⟨fun h i g => ?_, fun i g hg => ?_⟩⟩
  · simp only [List.mem_cons, List.not_mem_nil, or_false] at hcode
    rcases hcode with rfl | rfl | rfl | rfl | rfl | rfl
    · exact (adjustEvent_rule _ _ _).checks (exec_adjust hserved) (fun _ => trivial) (fun _ => trivial)
    · exact (renewEvent_rule _ _ _).checks (exec_renew hserved) (fun _ => trivial) (fun _ => trivial)
    · exact (releaseEvent_rule _ _ _).checks (exec_release hserved) (fun _ => trivial) (by decide)
    · exact (ackEvent_rule _ _ _).checks (exec_ack hserved) (fun _ => trivial) (by decide)
    · exact (revokeEvent_rule _ _ _).checks (exec_revoke hserved) (by decide) (by decide)
    · exact (queryEvent_rule _ _ _).checks (exec_query hserved) (by decide) (by decide)
  · rw [lookup_some_iff, eq_comm (a := h)]; rfl
  · exact ⟨c.handleAt i, handleValue_le _ _, (lookup_some_iff _ _ _ _).2 ⟨hg, rfl⟩,
      fun h' hl => ((lookup_some_iff _ _ _ _).1 hl).2.symm⟩

/-! ## QUERY and LIST -/

/-- The place of the first occurrence. -/
theorem positionIn_split {before after : List SlotIx} {i : SlotIx} (h : i ∉ before) :
    positionIn (before ++ i :: after) i = some (before.length + 1) := by
  induction before with
  | nil => simp [positionIn]
  | cons j before ih =>
    simp only [List.mem_cons, not_or] at h
    simp [positionIn, Ne.symm h.1, ih h.2]

theorem holder_of_noHolder {c : Controller} {ch : Channel} (h : NoHolder c ch) : c.holder ch = none := by
  refine List.find?_eq_none.2 fun i _ hi => ?_
  obtain ⟨g, hg, hq⟩ := (Option.any_eq_true _ _).1 hi
  simp only [Bool.and_eq_true, beq_iff_eq] at hq
  exact h i g hg hq.1 hq.2

/-- The answer to a QUERY of a grant (R26). -/
theorem exec_query_named {s : State} {p : Port} {client : Byte} {payload : List Byte} {who : Client} {h : Nat} {i : SlotIx}
    {g : Grant} (hserved : Served s p client 0x10 payload who) (hread : readHandle payload = some h) (hn : Names s h i g) :
    exec (.query p client payload) s = .next (answeredState s p client 0x10 .ok (queryPayload s.ctl i g)) := by
  obtain ⟨hm, hl⟩ := hn
  rw [exec_query hserved, queryEvent, hread,
    withHandle_named (by rw [markTaken_running, running_of_mode hm]) (by rwa [markTaken_ctl]), markTaken_ctl, answer_markTaken]

/-- The record's bytes from the items of its presence byte. -/
theorem queryPayload_items {c : Controller} {i : SlotIx} {g : Grant} {h : Nat} {start res wait place holder : Option Nat}
    {reason : Option CloseReason} (hh : c.handleAt i = h) (hstart : g.start? = start) (hres : g.reservation? = res)
    (hreason : g.closeReason? = reason) (hwait : c.waitingItem i g = wait) (hplace : c.admissionItem i g = place)
    (hholder : c.holderItem g = holder) : queryPayload c i g =
      put16 h ++ put8 (start.isSome.toNat + 2 * res.isSome.toNat + 4 * g.leaseRemaining.isSome.toNat +
        8 * reason.isSome.toNat + 16 * wait.isSome.toNat + 32 * place.isSome.toNat + 64 * holder.isSome.toNat) ++
      put8 g.state.code ++ put8 g.owner.val ++ put8 g.channel.val ++ put8 g.priority.val ++ put16 g.targetDuty ++
      put16 g.presentDuty ++ put8 g.rampRate ++ putBool g.rampNotify ++ put8? start ++ put8? res ++ put8 g.leaseLength ++
      put8? g.leaseRemaining ++ put8 (noticesByte g.notices) ++ put8? (reason.map CloseReason.code) ++ put8? wait ++
      put8? place ++ put16? holder := by
  subst hh hstart hres hreason hwait hplace hholder
  rfl

theorem put8?_none : put8? none = [0xFF] := rfl
theorem put8?_some (n : Nat) : put8? (some n) = put8 n := rfl
theorem put16?_none : put16? none = [0xFF, 0xFF] := rfl
theorem put16?_some (n : Nat) : put16? (some n) = put16 n := rfl
theorem put8?_lease (l : Option Nat) : put8? l = match l with | some n => put8 n | none => [0xFF] := by cases l <;> rfl

section
variable {c : Controller} {i : SlotIx} {g : Grant} {h : Nat} (hh : c.handleAt i = h)
include hh

/-- The bytes from the handle to the ramp notify. -/
def queryHead (h : Nat) (g : Grant) (presence state : Nat) : List Byte :=
  put16 h ++ put8 (presence + if g.leaseRemaining.isSome then 4 else 0) ++ put8 state ++ put8 g.owner.val ++
    put8 g.channel.val ++ put8 g.priority.val ++ put16 g.targetDuty ++ put16 g.presentDuty ++ put8 g.rampRate ++
    put8 (if g.rampNotify then 1 else 0)

/-- The bytes of the lease. -/
def queryLease (g : Grant) : List Byte :=
  put8 g.leaseLength ++ (match g.leaseRemaining with | some n => put8 n | none => [0xFF])

theorem queryPayload_active {start : Segment} {r : Nat} {before after : List SlotIx} (hs : g.state = .active start r)
    (hl : c.admission = before ++ i :: after) (hi : i ∉ before) : queryPayload c i g =
      queryHead h g 35 1 ++ put8 start.val ++ put8 r ++ queryLease g ++ put8 (noticesByte g.notices) ++ [0xFF, 0xFF] ++
        put8 (before.length + 1) ++ [0xFF, 0xFF] := by
  rw [queryPayload_items (start := some start.val) (res := some r) (reason := none) (wait := none)
    (place := some (before.length + 1)) (holder := none) hh (by simp [Grant.start?, hs]) (by simp [Grant.reservation?, hs])
    (by simp [Grant.closeReason?, hs]) (by simp [Controller.waitingItem, Grant.waits, hs])
    (by simp [Controller.admissionItem, Grant.isActive, hs, hl, positionIn_split hi])
    (by simp [Controller.holderItem, Grant.isQueued, hs])]
  cases hr : g.leaseRemaining <;> simp [queryHead, queryLease, hr, hs, GrantState.code, putBool, put8?_none, put8?_some, put16?_none]

/-- A waiting grant's record; the holder item depends on the state and on whether the channel has a holder. -/
theorem queryPayload_waits {before after : List SlotIx} {holder : Option Nat} (hw : g.waits = true)
    (hl : c.waiting = before ++ i :: after) (hi : i ∉ before) (hholder : c.holderItem g = holder) : queryPayload c i g =
      queryHead h g (16 + 64 * holder.isSome.toNat) g.state.code ++ [0xFF, 0xFF] ++ queryLease g ++
        put8 (noticesByte g.notices) ++ [0xFF] ++ put8 (before.length + 1) ++ [0xFF] ++ put16? holder := by
  have waiting : c.waitingItem i g = some (before.length + 1) := by
    simp [Controller.waitingItem, hw, hl, positionIn_split hi]
  have bits : ∀ l : Bool, 0 + 2 * 0 + 4 * l.toNat + 8 * 0 + 16 * 1 + 32 * 0 + 64 * holder.isSome.toNat =
      16 + 64 * holder.isSome.toNat + if l then 4 else 0 := by
    intro l
    cases l with
    | false => simp
    | true => simp; omega
  have none_of : g.start? = none ∧ g.reservation? = none ∧ g.closeReason? = none ∧ c.admissionItem i g = none := by
    unfold Grant.waits at hw
    cases hs : g.state <;> simp_all [Grant.start?, Grant.reservation?, Grant.closeReason?, Controller.admissionItem, Grant.isActive]
  obtain ⟨hstart, hres, hreason, hplace⟩ := none_of
  rw [queryPayload_items hh hstart hres hreason waiting hplace hholder]
  simp only [Option.isSome_none, Option.isSome_some, Bool.toNat_false, Bool.toNat_true, bits, put8?_lease, Option.map_none,
    queryHead, queryLease, putBool, List.append_assoc, List.cons_append, List.nil_append]

theorem queryPayload_closed {reason : CloseReason} (hs : g.state = .closed reason) : queryPayload c i g =
      queryHead h g 8 4 ++ [0xFF, 0xFF] ++ queryLease g ++ put8 (noticesByte g.notices) ++
        put8 (if reason = .expired then 1 else if reason = .channelFault then 2 else 3) ++ [0xFF, 0xFF, 0xFF, 0xFF] := by
  rw [queryPayload_items (start := none) (res := none) (reason := some reason) (wait := none) (place := none)
    (holder := none) hh (by simp [Grant.start?, hs]) (by simp [Grant.reservation?, hs])
    (by simp [Grant.closeReason?, hs]) (by simp [Controller.waitingItem, Grant.waits, hs])
    (by simp [Controller.admissionItem, Grant.isActive, hs]) (by simp [Controller.holderItem, Grant.isQueued, hs])]
  have code : reason.code = if reason = .expired then 1 else if reason = .channelFault then 2 else 3 := by
    cases reason <;> rfl
  cases hr : g.leaseRemaining <;>
    simp [queryHead, queryLease, hr, hs, GrantState.code, putBool, put8?_none, put8?_some, put16?_none, code]

end

theorem holderItem_deferred {c : Controller} {g : Grant} (h : g.state = .deferred) : c.holderItem g = none := by
  simp [Controller.holderItem, Grant.isQueued, h]

theorem holderItem_queued {c : Controller} {g : Grant} (h : g.state = .queued) :
    c.holderItem g = (c.holder g.channel).map c.handleAt := by
  simp [Controller.holderItem, Grant.isQueued, h]

/-! ## LIST -/

theorem clientOf_val {n : Byte} (h : n.toNat < 8) : clientOf n = some ⟨n.toNat, h⟩ := by simp [clientOf, h]
theorem clientOf_of_le {n : Byte} (h : 8 ≤ n.toNat) : clientOf n = none := by simp [clientOf, Nat.not_lt.2 h]

/-- LIST's checks and its answer (R29). -/
theorem exec_list_cases {s : State} {p : Port} {client named : Byte} {who : Client} (h : Served s p client 0x11 [named] who) :
    (s.config.mode ≠ .run →
      exec (.list p client [named]) s = .next (answeredState s p client 0x11 .wrongMode [])) ∧
    (s.config.mode = .run → 8 ≤ named.toNat →
      exec (.list p client [named]) s = .next (answeredState s p client 0x11 .badArg [])) ∧
    (s.config.mode = .run → ∀ hlt : named.toNat < 8, exec (.list p client [named]) s =
      .next (answeredState s p client 0x11 (.okListed (s.ctl.ownedSlots ⟨named.toNat, hlt⟩).length)
        (listPayload s.ctl ⟨named.toNat, hlt⟩))) := by
  rw [exec_list h]
  unfold listEvent
  rw [markTaken_running]
  refine ⟨fun hm => ?_, fun hm hn => ?_, fun hm hn => ?_⟩
  · simp only [not_running_of_mode hm, Bool.not_false, if_true, answer_markTaken]
  · simp only [running_of_mode hm, Bool.not_true, Bool.false_eq_true, if_false, readClient, clientOf_of_le hn, answer_markTaken]
  · simp only [running_of_mode hm, Bool.not_true, Bool.false_eq_true, if_false, readClient, clientOf_val hn, answer_markTaken,
      markTaken_ctl]

theorem ownedSlots_eq (c : Controller) {n : Nat} (h : n < 8) : c.ownedSlots ⟨n, h⟩ =
    (List.finRange 32).filter fun i => (c.grantAt i).any fun g => g.owner.val == n := by
  have test : (fun g : Grant => g.owner == (⟨n, h⟩ : Client)) = fun g => g.owner.val == n := by
    funext g
    rw [Bool.eq_iff_iff, beq_iff_eq, beq_iff_eq, Fin.ext_iff]
  simp only [Controller.ownedSlots, Controller.slotsWhere, allSlots, test]

theorem listEntry_eq (c : Controller) (i : SlotIx) : listEntry c i = (c.grantAt i).elim [] fun g =>
    put16 ((c.table[i].generation.val * 32 + i.val) * 128 +
      (match g.state with | .active _ _ => 1 | .deferred => 2 | .queued => 3 | .closed _ => 4) * 16 +
      (if g.notices.pending then 8 else 0)) := by
  unfold listEntry
  cases c.grantAt i with
  | none => rfl
  | some g =>
    have bit : 8 * g.notices.pending.toNat = if g.notices.pending then 8 else 0 := by cases g.notices.pending <;> rfl
    simp only [Option.elim_some, bit] <;> rfl

/-- Settles O20: QUERY's record by the grant's state, LIST's entries in slot order. -/
theorem queryAndListAnswer : Obligations.QueryAndListAnswer := by
  refine ⟨fun s p client payload who h i g hserved hread hn => ?_, fun s p client named who hserved => ?_⟩
  · have hh : s.ctl.handleAt i = h := ((lookup_some_iff _ _ _ _).1 hn.2).2
    intro answered head lease
    have told : ∀ bytes, queryPayload s.ctl i g = bytes → answered bytes := fun bytes e => by
      rw [← e]; exact exec_query_named hserved hread hn
    refine ⟨fun start r before after hs hl hi => told _ (queryPayload_active hh hs hl hi),
      fun before after hs hl hi => told _ ?_, fun before after hs hl hi hno => told _ ?_,
      fun before after j gj hs hl hi hj hholds hch hone => told _ ?_, fun reason hs => told _ (queryPayload_closed hh hs)⟩
    · rw [queryPayload_waits hh (by simp [Grant.waits, hs]) hl hi (holderItem_deferred hs), hs]
      simp only [put16?_none, List.append_assoc, List.cons_append, List.nil_append] <;> rfl
    · have none_holds : s.ctl.holderItem g = none := by rw [holderItem_queued hs, holder_of_noHolder hno, Option.map_none]
      rw [queryPayload_waits hh (by simp [Grant.waits, hs]) hl hi none_holds, hs]
      simp only [put16?_none, List.append_assoc, List.cons_append, List.nil_append] <;> rfl
    · rw [queryPayload_waits hh (by simp [Grant.waits, hs]) hl hi
        ((holderItem_queued hs).trans (by rw [holder_of_unique hj hholds hch hone, Option.map_some])), hs] <;> rfl
  · obtain ⟨wrongMode, badArg, ok⟩ := exec_list_cases hserved
    refine ⟨wrongMode, badArg, fun hm hn => ?_⟩
    rw [ok hm hn, listPayload, ownedSlots_eq, funext (listEntry_eq s.ctl)] <;> rfl

/-! ## MAP_READ -/

theorem put8_toNat (b : Byte) : put8 b.toNat = [b] := by simp [put8]

theorem readMapRun_refused {first count : Byte} (h : 63 < first.toNat ∨ count.toNat = 0 ∨ 16 < count.toNat) :
    readMapRun [first, count] = none := by
  simp only [readMapRun]
  cases hs : segmentOf first with
  | none => rfl
  | some segment =>
    have inside : ¬ 64 ≤ first.toNat := fun hle => by rw [segmentOf_none.2 hle] at hs; cases hs
    exact if_neg (by omega)

theorem readMapRun_read {first count : Byte} (hf : first.toNat < 64) (h1 : 1 ≤ count.toNat) (h16 : count.toNat ≤ 16) :
    readMapRun [first, count] = some (⟨first.toNat, hf⟩, count.toNat) := by
  simp only [readMapRun, segmentOf, hf, dite_true]
  exact if_pos ⟨h1, h16⟩

theorem putBool_inFlight (c : Controller) : putBool c.inFlight = put8 (if c.repack = .idle then 0 else 1) := by
  unfold putBool Controller.inFlight
  cases c.repack <;> rfl

/-- Settles O21: the checks of MAP_READ in their order, and its payload item by item. -/
theorem mapReadAnswers : Obligations.MapReadAnswers := by
  intro s p client first count who hserved
  rw [exec_mapRead hserved]
  unfold mapReadEvent
  rw [markTaken_running]
  refine ⟨fun hm => ?_, fun hm h => ?_, fun hm hf h1 h16 => ?_⟩
  · simp only [not_running_of_mode hm, Bool.not_false, if_true, answer_markTaken]
  · simp only [running_of_mode hm, Bool.not_true, Bool.false_eq_true, if_false, readMapRun_refused h, answer_markTaken]
  · have hf' : first.toNat < 64 := by omega
    simp only [running_of_mode hm, Bool.not_true, Bool.false_eq_true, if_false, readMapRun_read hf' h1 h16, answer_markTaken,
      markTaken_ctl, mapPayload, put8_toNat, putBool_inFlight]
    rfl

/-! ## STATUS -/

theorem statusPayload_markTaken (s : State) (p : Port) (r : Request) : statusPayload (s.markTaken p r) = statusPayload s := by
  simp only [statusPayload, markTaken_config, markTaken_timer, markTaken_ctl, markTaken_supply, markTaken_engine]

theorem any_const_true (o : Option Grant) : (o.any fun _ => true) = o.isSome := by cases o <;> rfl

/-- The FREE slots are those that are not occupied. -/
theorem free_count (c : Controller) : 32 - c.occupied = ((List.finRange 32).filter fun i => (c.grantAt i).isNone).length := by
  have split : 32 = ((List.finRange 32).filter fun i => (c.grantAt i).isSome).length +
      ((List.finRange 32).filter fun i => (c.grantAt i).isNone).length := by
    simpa using List.length_eq_length_filter_add (l := List.finRange 32) fun i => (c.grantAt i).isSome
  simp only [Controller.occupied, Controller.slotsWhere, allSlots, any_const_true]
  exact Nat.sub_eq_of_eq_add' split

theorem slotCounts_bytes (c : Controller) : (slotCounts c).flatMap put8 =
    put8 ((List.finRange 32).filter fun i => (c.grantAt i).isNone).length ++
    put8 ((List.finRange 32).filter fun i => (c.grantAt i).any Grant.isActive).length ++
    put8 ((List.finRange 32).filter fun i => (c.grantAt i).any fun x => x.state == .deferred).length ++
    put8 ((List.finRange 32).filter fun i => (c.grantAt i).any fun x => x.state == .queued).length ++
    put8 ((List.finRange 32).filter fun i => (c.grantAt i).any Grant.isClosed).length := by
  rw [slotCounts, free_count]
  simp only [List.flatMap_cons, List.flatMap_nil, List.append_nil, List.append_assoc]
  rfl

theorem asserted_bits (a b : Bool) : a.toNat + 2 * b.toNat = (if a then 1 else 0) + (if b then 2 else 0) := by
  cases a <;> cases b <;> rfl

theorem channelByte_eq (u : ChannelUnit) :
    channelByte u = (match u.fault with | .ok => 0 | .faulted => 128) + u.mismatches := by
  unfold channelByte
  cases u.fault <;> rfl

theorem mode_byte (m : Mode) : (if m = .run then 1 else 0) = match m with | .config => 0 | .run => 1 := by cases m <;> rfl

/-- Settles O23: the payload item by item. -/
theorem statusAnswers : Obligations.StatusAnswers := by
  intro s p client who hserved
  rw [exec_status hserved, statusPayload_markTaken, answer_markTaken, statusPayload, slotCounts_bytes, asserted_bits,
    mode_byte]
  simp only [channelByte_eq, putBool, List.append_assoc]
  rfl

end Sys2Proof.Proofs
end

section
/-! SUPPORT. Room: coverage, the room test, first-fit, the four operations of R38, and the retry pass visit by visit (R32, R38, R40,
R59, R60, R73 to R77). -/

namespace Sys2Proof.Proofs

open Sys2Proof Sys2Proof.Machine Sys2Proof.Safety Sys2Proof.Laws

/-! ## Coverage and the room test -/

/-- A run of at most 64 segments covers those reached from its start in fewer steps than its length (R32). -/
theorem covers_iff {s : Segment} {f : Nat} {k : Segment} (hf : f ≤ 64) :
    covers s f k = true ↔ ∃ n, n < f ∧ k.val = (s.val + n) % 64 := by
  have hs := s.isLt
  have hk := k.isLt
  rw [covers, decide_eq_true_eq]
  constructor
  · exact fun h => ⟨_, h, by omega⟩
  · rintro ⟨n, hn, he⟩; omega

theorem covers_full (s k : Segment) : covers s 64 k = true := by
  rw [covers, decide_eq_true_eq]; exact Nat.mod_lt _ (by decide)

theorem covers_start (s : Segment) {f : Nat} (hf : 1 ≤ f) : covers s f s = true := by
  have hs := s.isLt
  rw [covers, decide_eq_true_eq]; omega

section
variable {m : Vector Nat 64} {total peak charge current f : Nat} {home s : Segment}

theorem fits_full (s s' : Segment) : fits m total peak charge current s 64 = fits m total peak charge current s' 64 := by
  rw [Bool.eq_iff_iff, fits_iff, fits_iff]
  simp only [covers_full]

theorem fits_of_current_above (h : peak < current) (hf : 1 ≤ f) : fits m total peak charge current s f = false := by
  rw [Bool.eq_false_iff]
  intro hfit
  have room := (fits_iff.1 hfit).1 s (covers_start s hf)
  omega

/-! ## First-fit -/

theorem firstFit_pinned_iff : firstFit m total peak charge current home true f = some s ↔
    s = home ∧ fits m total peak charge current home f = true := by
  simp only [firstFit, candidates, if_true, List.find?_cons, List.find?_nil]
  cases h : fits m total peak charge current home f
  · simp
  · simp [eq_comm]

/-- The n-th candidate of a channel that is not pinned. -/
theorem candidates_get (home : Segment) (n : Nat) (hn : n < (candidates home false).length) :
    (candidates home false)[n] = segmentAfter home n := by
  simp [candidates]

theorem candidates_length (home : Segment) : (candidates home false).length = 64 := by simp [candidates]

/-- First-fit takes the first candidate from home that fits (R59). -/
theorem firstFit_eq_some_iff : firstFit m total peak charge current home false f = some s ↔
    ∃ n, n < 64 ∧ s = segmentAfter home n ∧ fits m total peak charge current s f = true ∧
      ∀ n', n' < n → fits m total peak charge current (segmentAfter home n') f = false := by
  rw [firstFit, List.find?_eq_some_iff_getElem]
  constructor
  · rintro ⟨hfit, n, hn, he, before⟩
    rw [candidates_get] at he
    refine ⟨n, candidates_length home ▸ hn, he.symm, hfit, fun n' hlt => ?_⟩
    have := before n' hlt
    rw [candidates_get] at this
    simpa using this
  · rintro ⟨n, hn, rfl, hfit, before⟩
    refine ⟨hfit, n, by rw [candidates_length]; exact hn, candidates_get _ _ _, fun n' hlt => ?_⟩
    rw [candidates_get, before n' hlt]
    rfl

/-- Every segment is a candidate. -/
theorem exists_segmentAfter (home s : Segment) : ∃ n, n < 64 ∧ s = segmentAfter home n := by
  have hs := s.isLt
  have hh := home.isLt
  exact ⟨(s.val + 64 - home.val) % 64, Nat.mod_lt _ (by decide), Fin.ext (by simp only [segmentAfter]; omega)⟩

theorem firstFit_eq_none_iff : firstFit m total peak charge current home false f = none ↔
    ∀ s : Segment, fits m total peak charge current s f = false := by
  rw [firstFit, List.find?_eq_none]
  constructor
  · intro h s
    obtain ⟨n, hn, rfl⟩ := exists_segmentAfter home s
    exact Bool.eq_false_iff.2 (h _ (by simpa [candidates] using ⟨n, hn, rfl⟩))
  · intro h s _
    simp [h s]

end

theorem eq_segmentAfter_iff {home s : Segment} {n : Nat} : s = segmentAfter home n ↔ s.val = (home.val + n) % 64 := Fin.ext_iff

/-- Settles O24: coverage by distance from the start, the room test's two bounds, and first-fit as the first candidate. -/
theorem roomTestAndFirstFit : Obligations.RoomTestAndFirstFit := by
  refine ⟨fun s f k hf => covers_iff hf, fun m total peak charge current => ⟨fun s f => fits_iff, fits_full,
    fun s f => fits_of_current_above, fun home f s => ⟨firstFit_pinned_iff, ?_⟩, fun home f => firstFit_eq_none_iff⟩⟩
  rw [firstFit_eq_some_iff]
  constructor
  · rintro ⟨n, hn, he, hfit, before⟩
    exact ⟨n, hn, eq_segmentAfter_iff.1 he, hfit, fun n' s' hlt he' => eq_segmentAfter_iff.2 he' ▸ before n' hlt⟩
  · rintro ⟨n, hn, he, hfit, before⟩
    exact ⟨n, hn, eq_segmentAfter_iff.2 he, hfit, fun n' hlt => before n' _ hlt rfl⟩

/-! ## The four operations of R38 -/

section
variable {c : Controller} {profiles : Vector Profile 16} {i : SlotIx} {g : Grant} {s : Segment} {r f : Nat}

theorem detach_active_waiting (h : c.grantAt i = some g) (hs : g.state = .active s r) :
    (c.detach profiles i).waiting = c.waiting := by
  simp only [detach_active h hs, leaveRun_waiting]

theorem detach_active_admission (h : c.grantAt i = some g) (hs : g.state = .active s r) :
    (c.detach profiles i).admission = c.admission.erase i := by
  simp only [detach_active h hs]

theorem detach_active_load (h : c.grantAt i = some g) (hs : g.state = .active s r) (k : Segment) :
    (c.detach profiles i).loadMap[k] = c.loadMap[k] - if covers s r k then currentOf profiles g.channel else 0 := by
  simp only [detach_active h hs, leaveRun_load]

theorem detach_active_charge (h : c.grantAt i = some g) (hs : g.state = .active s r) :
    (c.detach profiles i).totalCharge = c.totalCharge - currentOf profiles g.channel * r := by
  simp only [detach_active h hs, leaveRun_totalCharge]

theorem resize_grow_load (h : c.grantAt i = some g) (hs : g.state = .active s r) (le : r ≤ f) (k : Segment) :
    (c.resize profiles i f).loadMap[k] =
      c.loadMap[k] + if covers (segmentAfter s r) (f - r) k then currentOf profiles g.channel else 0 := by
  simp only [Controller.resize, h, hs, if_pos le, enterRun_load, putGrant_loadMap]

theorem resize_shrink_load (h : c.grantAt i = some g) (hs : g.state = .active s r) (le : f ≤ r) (k : Segment) :
    (c.resize profiles i f).loadMap[k] =
      c.loadMap[k] - if covers (segmentAfter s f) (r - f) k then currentOf profiles g.channel else 0 := by
  rcases le.eq_or_lt with rfl | lt
  · rw [resize_grow_load h hs le_rfl]; simp [covers]
  · simp only [Controller.resize, h, hs, if_neg (Nat.not_le.2 lt), leaveRun_load, putGrant_loadMap]

theorem resize_grow_charge (h : c.grantAt i = some g) (hs : g.state = .active s r) (le : r ≤ f) :
    (c.resize profiles i f).totalCharge = c.totalCharge + currentOf profiles g.channel * (f - r) := by
  simp only [Controller.resize, h, hs, if_pos le, enterRun_totalCharge, putGrant_totalCharge]

theorem resize_shrink_charge (h : c.grantAt i = some g) (hs : g.state = .active s r) (le : f ≤ r) :
    (c.resize profiles i f).totalCharge = c.totalCharge - currentOf profiles g.channel * (r - f) := by
  rcases le.eq_or_lt with rfl | lt
  · rw [resize_grow_charge h hs le_rfl]; simp
  · simp only [Controller.resize, h, hs, if_neg (Nat.not_le.2 lt), leaveRun_totalCharge, putGrant_totalCharge]

/-- The tail between a shorter and a longer run covers what the longer one alone covers. -/
theorem covers_tail {k : Segment} (le : r ≤ f) (bound : f ≤ 64) :
    covers (segmentAfter s r) (f - r) k = true ↔ covers s f k = true ∧ covers s r k = false := by
  have part := covers_split (s := s) le bound k 1
  have mono : covers s r k = true → covers s f k = true := covers_mono le
  cases hf : covers s f k <;> cases hr : covers s r k <;> cases ht : covers (segmentAfter s r) (f - r) k <;> simp_all

/-- A resize moves exactly the segments that join or leave the run. -/
theorem resize_load (h : c.grantAt i = some g) (hs : g.state = .active s r) (hr : r ≤ 64) (hf : f ≤ 64) (k : Segment) :
    (covers s f k = covers s r k → (c.resize profiles i f).loadMap[k] = c.loadMap[k]) ∧
    (covers s f k = true → covers s r k = false →
      (c.resize profiles i f).loadMap[k] = c.loadMap[k] + currentOf profiles g.channel) ∧
    (covers s f k = false → covers s r k = true →
      (c.resize profiles i f).loadMap[k] = c.loadMap[k] - currentOf profiles g.channel) := by
  rcases Nat.le_total r f with le | le
  · have mono : covers s r k = true → covers s f k = true := covers_mono le
    rw [resize_grow_load h hs le]
    refine ⟨fun same => ?_, fun inF outR => ?_, fun outF inR => ?_⟩
    · rw [if_neg (fun t => by simp [((covers_tail le hf).1 t).1, ((covers_tail le hf).1 t).2] at same), Nat.add_zero]
    · rw [if_pos ((covers_tail le hf).2 ⟨inF, outR⟩)]
    · rw [mono inR] at outF; cases outF
  · have mono : covers s f k = true → covers s r k = true := covers_mono le
    rw [resize_shrink_load h hs le]
    refine ⟨fun same => ?_, fun inF outR => ?_, fun outF inR => ?_⟩
    · rw [if_neg (fun t => by simp [((covers_tail le hr).1 t).1, ((covers_tail le hr).1 t).2] at same), Nat.sub_zero]
    · rw [mono inF] at outR; cases outR
    · rw [if_pos ((covers_tail le hr).2 ⟨inR, outF⟩)]

end

/-- Settles O25: the map and the charge after each of the four operations, segment by segment. -/
theorem roomOperations : Obligations.RoomOperations := by
  intro profiles c i g h
  refine ⟨fun s f _ => ⟨activate_grantAt _ _ i g s f, activate_admission _ _ _ _ _ _, activate_load _ _ _ _ _ _,
    activate_totalCharge _ _ _ _ _ _⟩, fun s r hr hs => ⟨⟨detach_active_admission h hs, detach_active_waiting h hs,
    detach_active_load h hs, detach_active_charge h hs⟩, fun f hf => ⟨resize_grantAt _ h hs f, (resize_lists _ _ _ _).2,
    (resize_lists _ _ _ _).1, fun j hj => resize_slot_of_ne _ _ _ hj, resize_load h hs hr hf, resize_grow_charge h hs,
    resize_shrink_charge h hs⟩⟩⟩

end Sys2Proof.Proofs
end

section
/-! SUPPORT. The retry pass (O27): what a visit does, what the visits of others leave, and the holders a pass leaves behind. -/

namespace Sys2Proof.Proofs

open Sys2Proof Sys2Proof.Machine Sys2Proof.Safety Sys2Proof.Laws

section
variable {c d : Controller} {profiles : Vector Profile 16} {i j : SlotIx} {g : Grant}

/-! ## One visit -/

theorem noHolder_iff {ch : Channel} : NoHolder c ch ↔ c.holder ch = none :=
  ⟨holder_of_noHolder, fun none _ _ h holds same => holder_none none h holds same⟩

theorem eligible_iff : c.eligible g = true ↔ g.state = .deferred ∨ (g.state = .queued ∧ NoHolder c g.channel) := by
  rw [noHolder_iff]
  simp [Controller.eligible, Grant.isQueued]

theorem visit_of_free (h : c.grantAt i = none) : c.visit profiles i = c := by simp only [Controller.visit, h]

theorem visit_of_not_eligible (h : c.grantAt i = some g) (ne : c.eligible g = false) : c.visit profiles i = c := by
  simp [Controller.visit, h, ne]

theorem placeUnlessTier3_none {ch : Channel} {f : Nat} :
    c.placeUnlessTier3 profiles ch f = none ↔ c.tierInForce = 3 ∨ c.place profiles ch f = none := by
  simp only [Controller.placeUnlessTier3, Controller.atTier3, beq_iff_eq]
  split <;> simp_all

theorem placeUnlessTier3_some {ch : Channel} {f : Nat} {s : Segment} (below : c.tierInForce ≠ 3)
    (fit : c.place profiles ch f = some s) : c.placeUnlessTier3 profiles ch f = some s := by
  simp [Controller.placeUnlessTier3, Controller.atTier3, below, fit]

theorem visit_promotes (h : c.grantAt i = some g) (he : c.eligible g = true)
    (hn : c.placeUnlessTier3 profiles g.channel g.neededFootprint = none) : c.visit profiles i = c.promote i g := by
  simp [Controller.visit, h, he, hn]

theorem visit_admits {s : Segment} (h : c.grantAt i = some g) (he : c.eligible g = true)
    (hs : c.placeUnlessTier3 profiles g.channel g.neededFootprint = some s) :
    c.visit profiles i = c.admitGrant profiles i g s := by
  simp [Controller.visit, h, he, hs]

/-- An admission written out: record, lists, map and charge (R75). -/
theorem admitGrant_of_waits (h : c.grantAt i = some g) (hw : g.waits = true) (s : Segment) :
    c.admitGrant profiles i g s = { c with
      table := c.table.set i ⟨c.table[i].generation,
        some { g with state := .active s g.neededFootprint, notices := { g.notices with admitted := true } }⟩
      waiting := c.waiting.erase i
      admission := c.admission ++ [i]
      loadMap := Vector.ofFn fun k => c.loadMap[k] + if covers s g.neededFootprint k then currentOf profiles g.channel else 0
      totalCharge := c.totalCharge + currentOf profiles g.channel * g.neededFootprint } := by
  simp only [Controller.admitGrant, detach_waits h hw, Controller.activate, Controller.enterRun, Controller.putGrant, raiseRun]

/-- A visit touches the grant of its own slot alone. -/
theorem visit_grantAt_of_ne (ne : j ≠ i) : (c.visit profiles i).grantAt j = c.grantAt j := by
  rcases visit_cases profiles c i with e | ⟨g, -, -, ⟨s, -, e⟩ | ⟨-, e⟩⟩ <;> rw [e]
  · exact admitGrant_grantAt_of_ne _ _ _ _ ne
  · exact promote_grantAt_of_ne _ _ ne

/-- What a visit makes of the grant in its slot. -/
theorem visit_grantAt (h : c.grantAt i = some g) :
    ((c.visit profiles i).grantAt i = some g ∧ c.eligible g = false) ∨
    (c.eligible g = true ∧ ((c.visit profiles i).grantAt i = some { g with state := .deferred } ∨
      ∃ start, c.tierInForce ≠ 3 ∧ (c.visit profiles i).grantAt i = some { g with
        state := .active start g.neededFootprint, notices := { g.notices with admitted := true } })) := by
  cases he : c.eligible g with
  | false => left; rw [visit_of_not_eligible h he]; exact ⟨h, rfl⟩
  | true =>
    right
    refine ⟨rfl, ?_⟩
    cases hp : c.placeUnlessTier3 profiles g.channel g.neededFootprint with
    | none => left; rw [visit_promotes h he hp, promote_grantAt]
    | some s => right; exact ⟨s, place_not_tier3 hp, by rw [visit_admits h he hp, admitGrant_grantAt]⟩

/-- A channel with a holder keeps one through a visit. -/
theorem visit_keeps_holder {ch : Channel} (h : ¬ NoHolder c ch) : ¬ NoHolder (c.visit profiles i) ch := by
  simp only [NoHolder, not_forall] at h ⊢
  obtain ⟨k, g, hg, holds, same⟩ := h
  by_cases ne : k = i
  · subst ne
    rcases visit_grantAt (profiles := profiles) hg with ⟨e, -⟩ | ⟨-, e | ⟨start, -, e⟩⟩
    · exact ⟨k, g, e, holds, same⟩
    · exact ⟨k, _, e, by simp [Grant.holds], same⟩
    · exact ⟨k, _, e, by simp [Grant.holds, Grant.isActive], same⟩
  · exact ⟨k, g, (visit_grantAt_of_ne ne).trans hg, holds, same⟩

/-! ## The walk -/

theorem visits_grantAt_of_notMem (l : List SlotIx) (c : Controller) (h : j ∉ l) :
    (l.foldl (Controller.visit profiles) c).grantAt j = c.grantAt j := by
  induction l generalizing c with
  | nil => rfl
  | cons i l ih =>
    rw [List.mem_cons, not_or] at h
    obtain ⟨ne, rest⟩ := h
    exact (ih _ rest).trans (visit_grantAt_of_ne ne)

theorem visits_keep_holder {ch : Channel} (l : List SlotIx) (c : Controller) (h : ¬ NoHolder c ch) :
    ¬ NoHolder (l.foldl (Controller.visit profiles) c) ch := by
  induction l generalizing c with
  | nil => exact h
  | cons i l ih => exact ih _ (visit_keeps_holder h)

/-- The pass cut at one member of the waiting list: its visit is the only one that touches its grant. -/
theorem retryPass_at (nodup : c.waiting.Nodup) {before after : List SlotIx} (split : c.waiting = before ++ i :: after) :
    let reached := before.foldl (Controller.visit profiles) c
    reached.grantAt i = c.grantAt i ∧
    c.retryPass profiles = after.foldl (Controller.visit profiles) (Controller.visit profiles reached i) ∧
    (c.retryPass profiles).grantAt i = (Controller.visit profiles reached i).grantAt i := by
  intro reached
  have whole : c.retryPass profiles = after.foldl (Controller.visit profiles) (Controller.visit profiles reached i) := by
    simp only [Controller.retryPass, split, List.foldl_append, List.foldl_cons, reached]
  rw [split, List.nodup_middle, List.nodup_cons, List.mem_append, not_or] at nodup
  obtain ⟨⟨notBefore, notAfter⟩, -⟩ := nodup
  exact ⟨visits_grantAt_of_notMem before c notBefore, whole, by rw [whole]; exact visits_grantAt_of_notMem after _ notAfter⟩

/-- What a pass can have made of a waiting grant (R75, R76). -/
def PassedOn (c d : Controller) (j : SlotIx) (g : Grant) : Prop :=
  d.grantAt j = some g ∨ d.grantAt j = some { g with state := .deferred } ∨
    ∃ start, c.tierInForce ≠ 3 ∧ d.grantAt j = some { g with
      state := .active start g.neededFootprint, notices := { g.notices with admitted := true } }

theorem retryPass_passedOn (h : c.grantAt j = some g) : PassedOn c (c.retryPass profiles) j g := by
  refine (retryPass_induct (motive := fun d => d.tierInForce = c.tierInForce ∧ PassedOn c d j g)
    ⟨rfl, .inl h⟩ fun d i ⟨tier, now⟩ => ⟨(visit_ceilings profiles d i).1.trans tier, ?_⟩).2
  by_cases ne : j = i
  · subst ne
    rcases now with e | e | ⟨start, below, e⟩
    · rcases visit_grantAt (profiles := profiles) e with ⟨v, -⟩ | ⟨-, v | ⟨start, below, v⟩⟩
      · exact .inl v
      · exact .inr (.inl v)
      · exact .inr (.inr ⟨start, tier ▸ below, v⟩)
    · rcases visit_grantAt (profiles := profiles) e with ⟨v, -⟩ | ⟨-, v | ⟨start, below, v⟩⟩
      · exact .inr (.inl v)
      · exact .inr (.inl v)
      · exact .inr (.inr ⟨start, tier ▸ below, v⟩)
    · refine .inr (.inr ⟨start, below, ?_⟩)
      rw [visit_grantAt_of_not_waits profiles d j j (by rw [e]; rfl), e]
  · simpa only [PassedOn, visit_grantAt_of_ne ne] using now

theorem visit_admission_appends : ∃ tail, (c.visit profiles i).admission = c.admission ++ tail := by
  rcases visit_cases profiles c i with e | ⟨g, hg, he, ⟨s, -, e⟩ | ⟨-, e⟩⟩ <;> rw [e]
  · exact ⟨[], (List.append_nil _).symm⟩
  · exact ⟨[i], by rw [admitGrant_of_waits hg (eligible_waits he)]⟩
  · exact ⟨[], by rw [Controller.promote, putGrant_admission, List.append_nil]⟩

theorem retryPass_admission_appends : ∃ tail, (c.retryPass profiles).admission = c.admission ++ tail := by
  refine retryPass_induct (motive := fun d => ∃ tail, d.admission = c.admission ++ tail) ⟨[], (List.append_nil _).symm⟩
    fun d i ⟨tail, e⟩ => ?_
  obtain ⟨more, e'⟩ := visit_admission_appends (c := d) (profiles := profiles) (i := i)
  exact ⟨tail ++ more, by rw [e', e, List.append_assoc]⟩

/-- A grant that is QUEUED after a pass was not eligible at its visit, so its channel had a holder, and has it still. -/
theorem retryPass_holder_of_queued (lists : ListsExact c) (h : (c.retryPass profiles).grantAt j = some g)
    (queued : g.state = .queued) : ¬ NoHolder (c.retryPass profiles) g.channel := by
  have waits : g.waits = true := by simp [Grant.waits, queued]
  have member : j ∈ c.waiting := by
    by_contra out
    have same : (c.retryPass profiles).grantAt j = c.grantAt j := visits_grantAt_of_notMem _ _ out
    obtain ⟨-, -, waitingIs, -, -⟩ := lists
    exact out ((waitingIs j).2 (by rw [← same, h]; exact waits))
  obtain ⟨before, after, split⟩ := List.append_of_mem member
  obtain ⟨reach, whole, stands⟩ := retryPass_at (profiles := profiles) lists.1 split
  rw [h] at stands
  cases hg : (before.foldl (Controller.visit profiles) c).grantAt j with
  | none => rw [visit_of_free hg, hg] at stands; cases stands
  | some g₀ =>
    rcases visit_grantAt (profiles := profiles) hg with ⟨v, notEligible⟩ | ⟨-, v | ⟨start, -, v⟩⟩ <;>
      rw [v] at stands <;> cases stands
    · have held : ¬ NoHolder (before.foldl (Controller.visit profiles) c) g.channel := fun none => by
        rw [eligible_iff.2 (.inr ⟨queued, none⟩)] at notEligible; cases notEligible
      rw [whole]
      exact visits_keep_holder after _ (visit_keeps_holder held)
    · cases queued
    · cases queued

end

/-- Settles O27: the visit by case, the walk cut at a member, and what every visit keeps. -/
theorem retryPassOutcome : Obligations.RetryPassOutcome := by
  refine ⟨fun profiles c i => ⟨visit_of_free, fun g h => ⟨fun ne => ?_, fun el none => ?_, fun start el below fit => ?_⟩⟩,
    fun profiles c => ⟨fun empty => ?_, fun nodup before i after => retryPass_at nodup, fun j => ⟨retryPass_generation _ _ _,
      fun free => ?_, fun g h => ⟨fun still => ?_, fun _ => retryPass_passedOn h⟩⟩, retryPass_ceilings _ _,
      retryPass_admission_appends, fun within => retryPass_induct within fun _ i hd => visit_within hd i,
      fun lists => ⟨retryPass_listsExact lists _, fun j g => retryPass_holder_of_queued lists⟩⟩⟩
  · exact visit_of_not_eligible h (Bool.not_eq_true _ ▸ fun he => ne (eligible_iff.1 he))
  · rw [visit_promotes h (eligible_iff.2 el) (placeUnlessTier3_none.2 none)]; rfl
  · have he := eligible_iff.2 el
    rw [visit_admits h he (placeUnlessTier3_some below fit), admitGrant_of_waits h (eligible_waits he)]; rfl
  · simp only [Controller.retryPass, empty, List.foldl_nil]
  · rw [retryPass_grantAt_of_not_waits _ _ _ (by rw [free]; rfl), free]
  · rw [retryPass_grantAt_of_not_waits _ _ _ (by rw [h]; simpa using still), h]

end Sys2Proof.Proofs
end

section
/-! SUPPORT. The refusals of a GRANT (O28), CLEAR_FAULT (O41), the settings' requests (O42) and START (O43). -/

namespace Sys2Proof.Proofs

open Sys2Proof Sys2Proof.Machine Sys2Proof.Safety Sys2Proof.Laws

/-! ## Each served request is its event on the state that took it -/

section
variable {s : State} {p : Port} {client : Byte} {payload : List Byte} {who : Client}

theorem exec_grant (h : Served s p client 0x01 payload who) : exec (.grant p client payload) s =
    .next (grantEvent payload ⟨p, who, client, 0x01⟩ (s.markTaken p ⟨client, 0x01, payload⟩)) :=
  congrArg Host.Outcome.next (runRequest_served h _)
theorem exec_clearFault (h : Served s p client 0x18 payload who) : exec (.clearFault p client payload) s =
    .next (clearFaultEvent payload ⟨p, who, client, 0x18⟩ (s.markTaken p ⟨client, 0x18, payload⟩)) :=
  congrArg Host.Outcome.next (runRequest_served h _)
theorem exec_setProfile (h : Served s p client 0x20 payload who) : exec (.setProfile p client payload) s =
    .next (setProfileEvent payload ⟨p, who, client, 0x20⟩ (s.markTaken p ⟨client, 0x20, payload⟩)) :=
  congrArg Host.Outcome.next (runRequest_served h _)
theorem exec_setTiers (h : Served s p client 0x21 payload who) : exec (.setTiers p client payload) s =
    .next (setTiersEvent payload ⟨p, who, client, 0x21⟩ (s.markTaken p ⟨client, 0x21, payload⟩)) :=
  congrArg Host.Outcome.next (runRequest_served h _)
theorem exec_setMonitor (h : Served s p client 0x22 payload who) : exec (.setMonitor p client payload) s =
    .next (setMonitorEvent payload ⟨p, who, client, 0x22⟩ (s.markTaken p ⟨client, 0x22, payload⟩)) :=
  congrArg Host.Outcome.next (runRequest_served h _)
theorem exec_setFrame (h : Served s p client 0x23 payload who) : exec (.setFrame p client payload) s =
    .next (setFrameEvent payload ⟨p, who, client, 0x23⟩ (s.markTaken p ⟨client, 0x23, payload⟩)) :=
  congrArg Host.Outcome.next (runRequest_served h _)
theorem exec_start (h : Served s p client 0x28 payload who) : exec (.start p client payload) s =
    .next (startEvent ⟨p, who, client, 0x28⟩ (s.markTaken p ⟨client, 0x28, payload⟩)) :=
  congrArg Host.Outcome.next (runRequest_served h _)
theorem exec_stop (h : Served s p client 0x29 payload who) : exec (.stop p client payload) s =
    .next (stopEvent ⟨p, who, client, 0x29⟩ (s.markTaken p ⟨client, 0x29, payload⟩)) :=
  congrArg Host.Outcome.next (runRequest_served h _)
theorem exec_clear (h : Served s p client 0x2A payload who) : exec (.clear p client payload) s =
    .next (clearEvent ⟨p, who, client, 0x2A⟩ (s.markTaken p ⟨client, 0x2A, payload⟩)) :=
  congrArg Host.Outcome.next (runRequest_served h _)

end

/-! ## The refusals of a GRANT (R51 to R54) -/

section
variable {s : State} {t : Taken} {payload : List Byte} {a : GrantArgs} {who : Client} {r : Result}

theorem grantEvent_wrongMode (h : s.running = false) : grantEvent payload t s = answer t .wrongMode [] s := by
  simp [grantEvent, h]
theorem grantEvent_badArg (hr : s.running = true) (h : readGrant payload = none) :
    grantEvent payload t s = answer t .badArg [] s := by
  simp [grantEvent, hr, h]
theorem grantEvent_refused (hr : s.running = true) (ha : readGrant payload = some a)
    (h : grantRefusal a t.who s = some r) : grantEvent payload t s = answer t r [] s := by
  simp [grantEvent, hr, ha, h]

theorem hasLiving_iff {c : Controller} {ch : Channel} : c.hasLiving who ch = true ↔
    ∃ i g, c.grantAt i = some g ∧ g.isLiving = true ∧ g.owner = who ∧ g.channel = ch := by
  refine ⟨fun h => ?_, fun ⟨i, g, hg, lives, owner, channel⟩ => ?_⟩
  · by_contra none
    rw [hasLiving_of_none fun i g hg lives owner channel => none ⟨i, g, hg, lives, owner, channel⟩] at h
    cases h
  · by_contra h
    exact hasLiving_false ((Bool.not_eq_true _).mp h) hg lives owner channel

theorem freeSlot_isNone_iff {c : Controller} : c.freeSlot.isNone = true ↔ ∀ i, c.grantAt i ≠ none := by
  rw [Option.isNone_iff_eq_none]
  simp [Controller.freeSlot, allSlots]

/-- A GRANT that one of steps 3 to 7 refuses is answered so and changes nothing else. -/
theorem exec_grant_refused {p : Port} {client : Byte} (h : Served s p client 0x01 payload who) (hm : s.config.mode = .run)
    (ha : readGrant payload = some a) (hr : grantRefusal a who s = some r) :
    exec (.grant p client payload) s = .next (answeredState s p client 0x01 r []) := by
  have runs : (s.markTaken p ⟨client, 0x01, payload⟩).running = true := by rw [markTaken_running, running_of_mode hm]
  have refuses : grantRefusal a who (s.markTaken p ⟨client, 0x01, payload⟩) = some r := by rw [grantRefusal_markTaken, hr]
  rw [exec_grant h, grantEvent_refused (t := ⟨p, who, client, 0x01⟩) runs ha refuses, answer_markTaken]

end

/-- Settles O28: each clause fixes which branch of the refusals the GRANT takes. -/
theorem grantRefusalsInOrder : Obligations.GrantRefusalsInOrder := by
  intro s p client payload who served
  refine ⟨fun hm => ?_, fun hm none => ?_, fun a hm ha => ⟨fun off => ?_, fun on faulted => ?_, fun on ok =>
    ⟨fun above => ?_, fun within living => ?_, fun within alone full => ?_, fun within alone free flying => ?_⟩⟩⟩
  · rw [exec_grant served, grantEvent_wrongMode (by rw [markTaken_running, not_running_of_mode hm]), answer_markTaken]
  · rw [exec_grant served, grantEvent_badArg (by rw [markTaken_running, running_of_mode hm]) none, answer_markTaken]
  all_goals refine exec_grant_refused served hm ha ?_
  · simp only [grantRefusal, off, Bool.not_false, if_true]
  · simp only [grantRefusal, on, faulted, Bool.not_true, Bool.false_eq_true, if_false, if_true]
  · simp only [grantRefusal, on, ok, above, Bool.not_true, Bool.false_eq_true, reduceCtorEq, if_false, if_true]
  · simp only [grantRefusal, on, ok, Nat.not_lt.2 within, hasLiving_iff.2 living, Bool.not_true, Bool.false_eq_true,
      reduceCtorEq, if_false, if_true]
  · simp only [grantRefusal, on, ok, Nat.not_lt.2 within, mt hasLiving_iff.1 alone, freeSlot_isNone_iff.2 full,
      Bool.not_true, Bool.false_eq_true, reduceCtorEq, if_false, if_true]
  · have room : ¬ s.ctl.freeSlot.isNone = true := fun full => free.elim fun i hi => freeSlot_isNone_iff.1 full i hi
    simp only [grantRefusal, on, ok, Nat.not_lt.2 within, mt hasLiving_iff.1 alone, room, flying, Bool.not_true,
      Bool.false_eq_true, reduceCtorEq, if_false, if_true]

/-! ## CLEAR_FAULT (R167) -/

/-- Settles O41: the channel's unit is cleared, its fault state and count before it are the answer. -/
theorem clearFaultReturnsChannel : Obligations.ClearFaultReturnsChannel := by
  intro s p client number who served
  refine ⟨fun above => ?_, fun ch hch => ?_⟩
  · rw [exec_clearFault served, clearFaultEvent]
    simp only [readChannel, channelOf_of_gt above, answer_markTaken]
  · have hbyte : put8 ch.val = [number] := by simp [put8, hch]
    have fault : putBool (s.engine[ch].fault == .faulted) = put8 (match s.engine[ch].fault with | .ok => 0 | .faulted => 1) := by
      cases s.engine[ch].fault <;> rfl
    have moved : { s.markTaken p ⟨client, 0x18, [number]⟩ with engine := s.engine.set ch s.engine[ch].cleared } =
        State.markTaken { s with engine := s.engine.set ch s.engine[ch].cleared } p ⟨client, 0x18, [number]⟩ := by
      cases p <;> rfl
    rw [exec_clearFault served, clearFaultEvent]
    simp only [readChannel, channelOf_of_val hch, markTaken_engine, moved, answer_markTaken, hbyte, fault]
    rfl

/-! ## The settings (R178, R180 to R182) -/

section
variable {s : State} {t : Taken} {payload : List Byte}

/-- In CONFIG the state that took a request is not running. -/
theorem running_of_config {p : Port} (hm : s.config.mode = .config) (r : Request) : (s.markTaken p r).running = false := by
  rw [markTaken_running, not_running_of_mode (by rw [hm]; decide)]

theorem setProfileEvent_badArg (hr : s.running = false) (h : readSetProfile payload = none) :
    setProfileEvent payload t s = answer t .badArg [] s := by simp [setProfileEvent, hr, h]
theorem setTiersEvent_badArg (hr : s.running = false) (h : readTiers payload = none) :
    setTiersEvent payload t s = answer t .badArg [] s := by simp [setTiersEvent, hr, h]
theorem setMonitorEvent_badArg (hr : s.running = false) (h : readMonitor payload = none) :
    setMonitorEvent payload t s = answer t .badArg [] s := by simp [setMonitorEvent, hr, h]
theorem setFrameEvent_badArg (hr : s.running = false) (h : readFrame payload = none) :
    setFrameEvent payload t s = answer t .badArg [] s := by simp [setFrameEvent, hr, h]

theorem setProfile_markTaken (s : State) (p : Port) (r : Request) (ch : Channel) (profile : Profile) :
    { s.markTaken p r with config := { s.config with profiles := s.config.profiles.set ch profile } } =
      State.markTaken { s with config := { s.config with profiles := s.config.profiles.set ch profile } } p r := by
  cases p <;> rfl
theorem setTiers_markTaken (s : State) (p : Port) (r : Request) (table : TierTable) :
    (s.markTaken p r).setTiers table = (s.setTiers table).markTaken p r := by cases p <;> rfl
theorem recomputeTier_markTaken (s : State) (p : Port) (r : Request) :
    (s.markTaken p r).recomputeTier = s.recomputeTier.markTaken p r := by
  unfold State.recomputeTier
  rw [markTaken_supply, markTaken_config]
  dsimp only
  split
  · rfl
  · cases p <;> rfl
theorem setMonitor_markTaken (s : State) (p : Port) (r : Request) (m : Monitor) :
    (s.markTaken p r).setMonitor m = (s.setMonitor m).markTaken p r := by
  rw [State.setMonitor, State.setMonitor, ← recomputeTier_markTaken]
  cases p <;> rfl
theorem setFrame_markTaken (s : State) (p : Port) (r : Request) (d l : Nat) :
    (s.markTaken p r).setFrame d l = (s.setFrame d l).markTaken p r := by
  cases p <;> rfl

/-- The unit's next state at a SET_MONITOR, and the tier change it raises (R140, R139). -/
theorem recomputeTier_eq (s : State) : s.recomputeTier =
    { s with
      supply := { s.supply with effective := effectiveTier s.supply s.config.monitor }
      events := { s.events with
        tierChanges := s.events.tierChanges +
          if effectiveTier s.supply s.config.monitor = s.supply.effective then 0 else 1 } } := by
  unfold State.recomputeTier
  dsimp only
  split
  · rename_i same; rw [same]; rfl
  · rfl

theorem restartTimer_engine (s : State) : s.restartTimer.engine =
    if s.events.engineFrames = 0 then Vector.ofFn fun ch => s.engine[ch].cutShort else s.engine := rfl

end

/-- The refusals of the settings' requests. -/
theorem settings_refused {s : State} {p : Port} {client : Byte} {payload : List Byte} {who : Client} {code : Byte}
    {command : Instr} {event : List Byte → Taken → State → State} {unread : Prop}
    (run : exec command s = .next (event payload ⟨p, who, client, code⟩ (s.markTaken p ⟨client, code, payload⟩)))
    (running : ∀ {s' : State}, s'.running = true → ∀ pl t, event pl t s' = answer t .wrongMode [] s')
    (bad : ∀ {s' : State} {t : Taken}, s'.running = false → unread → event payload t s' = answer t .badArg [] s') :
    (s.config.mode = .run → exec command s = .next (answeredState s p client code .wrongMode [])) ∧
    (s.config.mode = .config → unread → exec command s = .next (answeredState s p client code .badArg [])) := by
  refine ⟨fun hm => ?_, fun hm hn => ?_⟩
  · rw [run, running (by rw [markTaken_running, running_of_mode hm]), answer_markTaken]
  · rw [run, bad (by rw [markTaken_running, not_running_of_mode (by rw [hm]; decide)]) hn, answer_markTaken]

/-- The enabled channels counted (R171). -/
theorem enabledCount_zero {c : Configuration} :
    enabledCount c = 0 ↔ (List.finRange 16).filter (fun ch => c.profiles[ch].enabled) = [] := List.length_eq_zero_iff

/-- The next state of a SET_TIERS written out (R180, R44). -/
theorem setTiers_eq (s : State) (table : TierTable) : s.setTiers table =
    { s with
      config := { s.config with tiers := table }
      ctl := { s.ctl with peakInForce := (tierCeilings table s.ctl.tierInForce).peak,
                          chargeInForce := (tierCeilings table s.ctl.tierInForce).charge } } := rfl

/-- Settles O42: the refusals by mode and by reader, then each request's next state written out. -/
theorem settingsWritten : Obligations.SettingsWritten := by
  refine ⟨fun s p client payload who code hcode served => ?_, fun s p client payload who ch profile served hm hread => ?_,
    fun s p client who p0 c0 p1 c1 p2 c2 => ?_, fun s p client payload who m served hm hread => ?_,
    fun s p client d l who served hm hd hd' hl => ?_⟩
  · simp only [List.mem_cons, List.not_mem_nil, or_false] at hcode
    rcases hcode with rfl | rfl | rfl | rfl
    · have rule := settings_refused (exec_setProfile served) setProfileEvent_running
        (setProfileEvent_badArg (payload := payload))
      exact ⟨rule.1, fun hm bad => rule.2 hm (by simpa using bad)⟩
    · have rule := settings_refused (exec_setTiers served) setTiersEvent_running
        (setTiersEvent_badArg (payload := payload))
      exact ⟨rule.1, fun hm bad => rule.2 hm (by simpa using bad)⟩
    · have rule := settings_refused (exec_setMonitor served) setMonitorEvent_running
        (setMonitorEvent_badArg (payload := payload))
      exact ⟨rule.1, fun hm bad => rule.2 hm (by simpa using bad)⟩
    · have rule := settings_refused (exec_setFrame served) setFrameEvent_running
        (setFrameEvent_badArg (payload := payload))
      exact ⟨rule.1, fun hm bad => rule.2 hm (by simpa using bad)⟩
  · have config := running_of_config hm (p := p)
    rw [exec_setProfile served, setProfileEvent]
    simp only [config, Bool.false_eq_true, if_false, hread, markTaken_config, setProfile_markTaken, answer_markTaken]
  · intro payload served hm hp0 hp1 hp2 hc0 hc1 hc2 ceilings
    have config := running_of_config hm (p := p)
    have hread : readTiers payload = some ⟨⟨p0, c0⟩, ⟨p1, c1⟩, ⟨p2, c2⟩⟩ := by
      rw [readTiers_put (by omega) (by omega) (by omega) (by omega) (by omega) (by omega),
        if_pos ⟨⟨hp0, hc0⟩, ⟨hp1, hc1⟩, hp2, hc2⟩]
    have loaded : tierCeilings ⟨⟨p0, c0⟩, ⟨p1, c1⟩, ⟨p2, c2⟩⟩ s.ctl.tierInForce = ⟨ceilings.1, ceilings.2⟩ := by
      unfold tierCeilings; split <;> rename_i e <;> simp only [ceilings, e]
    rw [exec_setTiers served, setTiersEvent]
    simp only [config, Bool.false_eq_true, if_false, hread, setTiers_markTaken, answer_markTaken, markTaken_ctl]
    simp only [setTiers_eq, loaded]
    rfl
  · have config := running_of_config hm (p := p)
    intro limit l0 l1 tier effective
    rw [exec_setMonitor served, setMonitorEvent]
    simp only [config, Bool.false_eq_true, if_false, hread, setMonitor_markTaken, answer_markTaken, markTaken_supply]
    simp only [State.setMonitor, recomputeTier_eq]
    rfl
  · have config := running_of_config hm (p := p)
    have hread : readFrame [d, l] = some (d.toNat, l.toNat) := if_pos ⟨hd, hd', hl⟩
    refine ⟨answeredState (s.setFrame d.toNat l.toNat) p client 0x23 .ok [d, l], ?_, ?_, fun idle ch => ?_, fun due => ?_⟩
    · rw [exec_setFrame served, setFrameEvent]
      simp only [config, Bool.false_eq_true, if_false, hread, setFrame_markTaken, answer_markTaken, put8_toNat]
      rfl
    · cases p <;> rfl
    · have engine : (answeredState (s.setFrame d.toNat l.toNat) p client 0x23 .ok [d, l]).engine =
          Vector.ofFn fun ch => s.engine[ch].cutShort := by
        cases p <;> exact if_pos idle
      simp only [engine, Fin.getElem_fin, Vector.getElem_ofFn]
      rfl
    · have engine : (answeredState (s.setFrame d.toNat l.toNat) p client 0x23 .ok [d, l]).engine = s.engine := by
        cases p <;> exact if_neg (Nat.one_le_iff_ne_zero.1 due)
      exact engine

/-! ## START (R171, R172) -/

theorem ceilingsWithin_iff {before after : Ceilings} :
    ceilingsWithin before after = true ↔ after.peak ≤ before.peak ∧ after.charge ≤ before.charge := by
  simp [ceilingsWithin]

/-- Settles O43: the checks of a START in their order, and the mode it sets. -/
theorem startEntersRun : Obligations.StartEntersRun := by
  intro s p client who served enabled ordered tiers refused
  refine ⟨fun hm => ?_, fun hm none => ?_, fun hm some first => ?_, fun hm some first second => ?_,
    fun hm some first second => ?_⟩
  · show exec _ _ = _
    rw [exec_start served, startEvent_running (by rw [markTaken_running, running_of_mode hm]), answer_markTaken]
  all_goals try show exec _ _ = _
  all_goals rw [exec_start served, startEvent]
  all_goals simp only [running_of_config hm, Bool.false_eq_true, if_false, markTaken_config]
  · rw [if_pos (enabledCount_zero.2 none), answer_markTaken]
  all_goals rw [if_neg (mt enabledCount_zero.1 some)]
  · have out : tierOutOfOrder s.config.tiers = Option.some 1 := by
      rw [tierOutOfOrder, Bool.eq_false_iff.2 (mt ceilingsWithin_iff.1 first)]; rfl
    simp only [out, answer_markTaken]
    rfl
  · have out : tierOutOfOrder s.config.tiers = Option.some 2 := by
      rw [tierOutOfOrder, ceilingsWithin_iff.2 first, Bool.eq_false_iff.2 (mt ceilingsWithin_iff.1 second)]; rfl
    simp only [out, answer_markTaken]
    rfl
  · have out : tierOutOfOrder s.config.tiers = Option.none := by
      rw [tierOutOfOrder, ceilingsWithin_iff.2 first, ceilingsWithin_iff.2 second]; rfl
    simp only [out, markTaken_supply, markTaken_ctl]
    cases p <;> rfl

end Sys2Proof.Proofs
end

section
/-! SUPPORT. What a request leaves alone while it is worked (the frame of every request of the grant controller), and how a held
request's answer survives the rest of an event. -/

namespace Sys2Proof.Proofs

open Sys2Proof Sys2Proof.Machine Sys2Proof.Safety Sys2Proof.Laws

section
variable {s u : State} {p q : Port} {held : HeldRequest}

/-! ## The frame of a request -/

theorem requestKept_markTaken (s : State) (p : Port) (r : Request) : RequestKept s (s.markTaken p r) p := by
  cases p <;> exact ⟨⟨rfl, rfl, rfl, rfl, rfl, rfl, rfl, rfl⟩, ⟨rfl, rfl, rfl, rfl, rfl, rfl⟩, rfl, rfl, rfl, rfl, rfl⟩

theorem requestKept_withCtl (h : RequestKept s u p) (c : Controller) : RequestKept s (u.withCtl c) p := by
  cases p <;> exact h

theorem requestKept_settle (h : RequestKept s u p) (b : Bool) : RequestKept s (u.settle b) p := by
  cases p <;> exact h

theorem requestKept_answer (h : RequestKept s u p) (who : Client) (client code : Byte) (r : Result) (pl : List Byte) :
    RequestKept s (answer ⟨p, who, client, code⟩ r pl u) p := by
  cases p <;> exact h

/-! ## One port kept -/

theorem portKept_refl (s : State) (q : Port) : PortKept s s q := ⟨rfl, rfl, rfl, rfl, rfl, rfl⟩

theorem portKept_refreshAlerts (h : PortKept s u q) : PortKept s u.refreshAlerts q := by cases q <;> exact h

theorem portKept_settle (h : PortKept s u q) (b : Bool) : PortKept s (u.settle b) q := by cases q <;> exact h

theorem portKept_withCtl (h : PortKept s u q) (c : Controller) : PortKept s (u.withCtl c) q := by cases q <;> exact h

theorem portKept_markTaken (s : State) (p : Port) (r : Request) : PortKept s (s.markTaken p r) (otherPort p) := by
  cases p <;> exact ⟨rfl, rfl, rfl, rfl, rfl, rfl⟩

theorem portKept_answer (h : PortKept s u (otherPort p)) (who : Client) (client code : Byte) (r : Result)
    (pl : List Byte) : PortKept s (answer ⟨p, who, client, code⟩ r pl u) (otherPort p) := by
  cases p <;> exact h

/-! ## The held request's answer -/

theorem answerHeld_answered (s : State) (held : HeldRequest) (r : Result) (pl : List Byte) :
    Answered (s.answerHeld held r pl) held.port (BitVec.ofNat 8 held.client.val) held.code r pl := by
  simp [Answered]

theorem abandon_answersHeld (flying : s.ctl.inFlight = true) (hh : s.ctl.held = some held) (r : Result) :
    AnsweredHeld (s.abandon r) held r := by
  rw [abandon_of_held flying hh]; exact answerHeld_answered _ held r []

theorem abandon_dropsPlan (flying : s.ctl.inFlight = true) (r : Result) :
    (s.abandon r).planner = { s.planner with plan := none } := by
  unfold State.abandon
  rw [if_pos flying]
  split
  · rw [answerHeld_planner]; rfl
  · rfl

theorem answered_refreshAlerts {client code : Byte} {r : Result} {pl : List Byte} (h : Answered u q client code r pl) :
    Answered u.refreshAlerts q client code r pl := by cases q <;> exact h
theorem answered_settle {client code : Byte} {r : Result} {pl : List Byte} (h : Answered u q client code r pl) (b : Bool) :
    Answered (u.settle b) q client code r pl := by cases q <;> exact h
theorem answered_withCtl {client code : Byte} {r : Result} {pl : List Byte} (h : Answered u q client code r pl)
    (c : Controller) : Answered (u.withCtl c) q client code r pl := by cases q <;> exact h

/-- The answer to the request of one port leaves what the other was answered. -/
theorem answered_answer {client code : Byte} {r r' : Result} {pl pl' : List Byte} {t : Taken} (ne : q ≠ t.port)
    (h : Answered u q client code r pl) : Answered (answer t r' pl' u) q client code r pl := by
  unfold Answered at h ⊢
  rwa [answer, writeResponse_port_of_ne _ _ ne]

theorem answer_alertLow (t : Taken) (r : Result) (pl : List Byte) (u : State) (q : Port) :
    ((answer t r pl u).port q).alertLow = (u.port q).alertLow := by
  obtain ⟨tp, who, client, code⟩ := t
  cases q <;> cases tp <;> rfl

end

/-! ## Slots emptied together (R173, R175) -/

/-- A table without grants has no notice. -/
theorem noticePending_of_empty {c : Controller} (h : ∀ i, c.grantAt i = none) (p : Port) : c.noticePending p = false := by
  simp [Controller.noticePending, h]

theorem occupied_eq (c : Controller) : c.occupied = ((List.finRange 32).filter fun i => (c.grantAt i).isSome).length := by
  have each : ∀ i, (c.grantAt i).any (fun _ => true) = (c.grantAt i).isSome := fun i => by cases c.grantAt i <;> rfl
  simp only [Controller.occupied, Controller.slotsWhere, each, allSlots]

theorem freeAll_slot (c : Controller) (i : SlotIx) : c.freeAll.table[i] =
    if c.grantAt i = none then c.table[i] else ⟨c.table[i].generation + 1, none⟩ := by
  simp only [Controller.freeAll, grantAt_def, Fin.getElem_fin, Vector.getElem_ofFn, Slot.freed, Option.isSome_iff_ne_none,
    ite_not] <;> rfl

/-- What both STOP and CLEAR leave of the controller. -/
structure Emptied (c d : Controller) : Prop where
  slots : ∀ i : SlotIx, d.table[i] = if c.grantAt i = none then c.table[i] else ⟨c.table[i].generation + 1, none⟩
  waiting : d.waiting = []
  admission : d.admission = []
  load : ∀ k : Segment, d.loadMap[k] = 0
  charge : d.totalCharge = 0
  serial : d.planSerial = c.planSerial
  idle : d.inFlight = false

theorem freeAll_emptied {c : Controller} (idle : c.inFlight = false) : Emptied c c.freeAll where
  slots := freeAll_slot c
  waiting := by simp only [Controller.freeAll]
  admission := by simp only [Controller.freeAll]
  load k := by simp [Controller.freeAll]
  charge := by simp only [Controller.freeAll]
  serial := by simp only [Controller.freeAll]
  idle := (freeAll_inFlight c).trans idle

theorem Emptied.withSummaries {c d : Controller} (h : Emptied c d) (a b : Bool) :
    Emptied c { d with summaryA := a, summaryB := b } := ⟨h.slots, h.waiting, h.admission, h.load, h.charge, h.serial, h.idle⟩
theorem Emptied.loadTier {c d : Controller} (h : Emptied c d) (table : TierTable) (tier : Tier) :
    Emptied c (d.loadTier table tier) := ⟨h.slots, h.waiting, h.admission, h.load, h.charge, h.serial, h.idle⟩
theorem Emptied.grants {c d : Controller} (h : Emptied c d) (i : SlotIx) : d.grantAt i = none := by
  rw [grantAt_def, h.slots i]
  split
  · rename_i free; rwa [grantAt_def] at free
  · rfl
/-- An abandonment before it changes nothing of what is emptied. -/
theorem Emptied.of_abandoned {s : State} {r : Result} {d : Controller} (h : Emptied (s.abandon r).ctl d) : Emptied s.ctl d := by
  have ctl := abandon_ctl s r
  have table : (s.abandon r).ctl.table = s.ctl.table := by rw [ctl]; split <;> rfl
  have serial : (s.abandon r).ctl.planSerial = s.ctl.planSerial := by rw [ctl]; split <;> rfl
  exact ⟨fun i => by rw [h.slots i, grantAt_of_table table, table], h.waiting, h.admission, h.load, h.charge,
    h.serial.trans serial, h.idle⟩

theorem stopAll_ctl (s : State) : s.stopAll.ctl = { (s.abandon .wrongMode).ctl.freeAll with
    summaryA := (s.abandon .wrongMode).ctl.freeAll.noticePending .a
    summaryB := (s.abandon .wrongMode).ctl.freeAll.noticePending .b } := rfl
theorem clearPart_ctl (s : State) : s.clearPart.ctl = { (s.abandon .wrongMode).ctl.clearAll with
    summaryA := (s.abandon .wrongMode).ctl.clearAll.noticePending .a
    summaryB := (s.abandon .wrongMode).ctl.clearAll.noticePending .b } := rfl

theorem freeAll_tiers (c : Controller) : c.freeAll.tierInForce = c.tierInForce ∧ c.freeAll.peakInForce = c.peakInForce ∧
    c.freeAll.chargeInForce = c.chargeInForce := by
  simp only [Controller.freeAll, and_self]
theorem abandon_tiers (s : State) (r : Result) : (s.abandon r).ctl.tierInForce = s.ctl.tierInForce ∧
    (s.abandon r).ctl.peakInForce = s.ctl.peakInForce ∧ (s.abandon r).ctl.chargeInForce = s.ctl.chargeInForce := by
  rw [abandon_ctl]; split <;> exact ⟨rfl, rfl, rfl⟩
/-- STOP keeps the tier in force and its ceilings. -/
theorem stopAll_tiers (s : State) : s.stopAll.ctl.tierInForce = s.ctl.tierInForce ∧
    s.stopAll.ctl.peakInForce = s.ctl.peakInForce ∧ s.stopAll.ctl.chargeInForce = s.ctl.chargeInForce := by
  obtain ⟨tier, peak, charge⟩ := freeAll_tiers (s.abandon .wrongMode).ctl
  obtain ⟨tier', peak', charge'⟩ := abandon_tiers s .wrongMode
  simp only [stopAll_ctl]
  exact ⟨tier.trans tier', peak.trans peak', charge.trans charge'⟩

theorem stopAll_emptied (s : State) : Emptied s.ctl s.stopAll.ctl := by
  rw [stopAll_ctl]
  exact ((freeAll_emptied (abandon_inFlight s _)).withSummaries _ _).of_abandoned
theorem clearPart_emptied (s : State) : Emptied s.ctl s.clearPart.ctl := by
  rw [clearPart_ctl]
  exact (((freeAll_emptied (abandon_inFlight s _)).loadTier _ _).withSummaries _ _).of_abandoned

theorem alertLow_of_port {u v : PortUnit} {low low' : Bool} (same : u = v) (quiet : low = low') :
    ({ u with alertLow := low } : PortUnit) = { v with alertLow := low' } := by rw [same, quiet]

theorem stopAll_port (s : State) (q : Port) : s.stopAll.port q = { (s.abandon .wrongMode).port q with alertLow := false } := by
  have quiet := noticePending_of_empty (freeAll_grantAt (s.abandon .wrongMode).ctl) q
  refine (refreshAlerts_port _ q).trans ?_
  exact alertLow_of_port (by cases q <;> rfl) quiet
theorem clearPart_port (s : State) (q : Port) :
    s.clearPart.port q = { (s.abandon .wrongMode).port q with alertLow := false } := by
  have quiet := noticePending_of_empty (clearAll_grantAt (s.abandon .wrongMode).ctl) q
  refine (refreshAlerts_port _ q).trans ?_
  exact alertLow_of_port (by cases q <;> rfl) quiet

/-- Ports that stand as an abandonment left them, ALERT lines released: the other port's frame, and the held request's answer. -/
theorem emptied_ports {s u : State} {p : Port} {who : Client} {client code : Byte} {pl : List Byte} {req : Request}
    (ports : ∀ q, u.port q = { ((s.markTaken p req).abandon .wrongMode).port q with alertLow := false }) :
    (∀ q, ((answer ⟨p, who, client, code⟩ .ok pl u).port q).alertLow = false) ∧
    (s.ctl.inFlight = false → PortKept s (answer ⟨p, who, client, code⟩ .ok pl u) (otherPort p)) ∧
    ∀ held, s.ctl.inFlight = true → s.ctl.held = some held → held.port ≠ p →
      AnsweredHeld (answer ⟨p, who, client, code⟩ .ok pl u) held .wrongMode := by
  refine ⟨fun q => by rw [answer_alertLow, ports], fun idle => ?_, fun held flying hh ne => ?_⟩
  · refine portKept_answer ?_ who client code .ok pl
    have kept := portKept_markTaken s p req
    unfold PortKept at kept ⊢
    rw [ports, abandon_of_idle (by rwa [markTaken_ctl])]
    exact kept
  · refine answered_answer ne ?_
    have told : AnsweredHeld ((s.markTaken p req).abandon .wrongMode) held .wrongMode :=
      abandon_answersHeld (by rwa [markTaken_ctl]) (by rwa [markTaken_ctl]) _
    unfold AnsweredHeld Answered at told
    unfold Answered
    rw [ports]
    exact told

/-- Settles O44: what STOP empties, what it keeps, and the repack it abandons. -/
theorem stopFreesAll : Obligations.StopFreesAll := by
  intro s p client who served
  refine ⟨fun hm => ?_, fun hm => ?_⟩
  · rw [exec_stop served, stopEvent, if_neg (by rw [running_of_config hm]; decide), answer_markTaken]
  · intro occupied
    have runs : (s.markTaken p ⟨client, 0x29, []⟩).running = true := by rw [markTaken_running, running_of_mode hm]
    have count : (s.markTaken p ⟨client, 0x29, []⟩).ctl.occupied = occupied.length := by
      rw [markTaken_ctl]; exact occupied_eq s.ctl
    refine ⟨_, (exec_stop served).trans (congrArg Host.Outcome.next (stopEvent_running runs _)), ?_⟩
    rw [count]
    have empty := stopAll_emptied (s.markTaken p ⟨client, 0x29, []⟩)
    rw [markTaken_ctl] at empty
    obtain ⟨lines, kept, told⟩ := emptied_ports (who := who) (client := client) (code := 0x29) (pl := put8 occupied.length)
      (stopAll_port (s.markTaken p ⟨client, 0x29, []⟩))
    obtain ⟨tier, peak, charge⟩ := stopAll_tiers (s.markTaken p ⟨client, 0x29, []⟩)
    rw [markTaken_ctl] at tier peak charge
    rw [answer_config, answer_ctl, answer_engine, answer_timer, answer_supply, answer_events, answer_planner]
    refine ⟨?_, empty.slots, empty.waiting, empty.admission, empty.load, empty.charge, tier, peak, charge, empty.serial,
      empty.idle, fun ch => ?_, lines .a, lines .b, ?_, ?_, ?_, answer_answered ⟨p, who, client, 0x29⟩ _ _ _,
      fun idle => ⟨kept idle, ?_⟩, fun held flying hh ne => ⟨?_, told held flying hh ne⟩⟩
    · show ({ ((s.markTaken p ⟨client, 0x29, []⟩).abandon .wrongMode).config with mode := .config } : Configuration) = _
      rw [abandon_config, markTaken_config]
    · show (State.blankAll { (s.markTaken p ⟨client, 0x29, []⟩).abandon .wrongMode with
        config := { ((s.markTaken p ⟨client, 0x29, []⟩).abandon .wrongMode).config with mode := .config } }).engine[ch] = _
      rw [blankAll_engine]
      show ({ ((s.markTaken p ⟨client, 0x29, []⟩).abandon .wrongMode).engine[ch] with window := none } : ChannelUnit) = _
      rw [abandon_engine, markTaken_engine]
    · exact (abandon_timer _ _).trans (markTaken_timer _ _ _)
    · exact (abandon_supply _ _).trans (markTaken_supply _ _ _)
    · exact (abandon_events _ _).trans (markTaken_events _ _ _)
    · show ((s.markTaken p ⟨client, 0x29, []⟩).abandon .wrongMode).planner = _
      rw [abandon_of_idle (by rwa [markTaken_ctl]), markTaken_planner]
    · show ((s.markTaken p ⟨client, 0x29, []⟩).abandon .wrongMode).planner.plan = none
      rw [abandon_dropsPlan (by rwa [markTaken_ctl])]

/-- Settles O45: what CLEAR resets, what it empties, and the repack it abandons. -/
theorem clearReturnsPart : Obligations.ClearReturnsPart := by
  intro s p client who served occupied
  refine ⟨_, exec_clear served, ?_⟩
  have count : (s.markTaken p ⟨client, 0x2A, []⟩).ctl.occupied = occupied.length := by
    rw [markTaken_ctl]; exact occupied_eq s.ctl
  rw [clearEvent, count]
  have empty := clearPart_emptied (s.markTaken p ⟨client, 0x2A, []⟩)
  rw [markTaken_ctl] at empty
  obtain ⟨lines, kept, told⟩ := emptied_ports (who := who) (client := client) (code := 0x2A) (pl := put8 occupied.length)
    (clearPart_port (s.markTaken p ⟨client, 0x2A, []⟩))
  rw [answer_config, answer_ctl, answer_engine, answer_timer, answer_supply, answer_events, answer_planner]
  refine ⟨rfl, rfl, rfl, rfl, empty.slots, empty.waiting, empty.admission, empty.load, empty.charge, rfl, rfl, rfl,
    empty.serial, empty.idle, lines .a, lines .b, (abandon_events _ _).trans (markTaken_events _ _ _),
    answer_answered ⟨p, who, client, 0x2A⟩ _ _ _, kept, fun held flying hh ne => ⟨?_, told held flying hh ne⟩⟩
  show ((s.markTaken p ⟨client, 0x2A, []⟩).abandon .wrongMode).planner.plan = none
  rw [abandon_dropsPlan (by rwa [markTaken_ctl])]

end Sys2Proof.Proofs
end

section
/-! SUPPORT. The frame timer's steps and its boundary (O46), and what a hard reset and its end leave (O60). -/

namespace Sys2Proof.Proofs

open Sys2Proof Sys2Proof.Machine Sys2Proof.Safety Sys2Proof.Laws

/-! ## The step clock (R152) -/

section
variable {s : State}

theorem exec_stepCounterAdvance (hr : s.inReset = false) (h : s.timer.step ≠ 2047) : exec .stepCounterAdvance s =
    .next { s with timer := { step := s.timer.step + 1, frameCount := s.timer.reached } } := by
  simp only [exec, execStepCounterAdvance, hr, h, Bool.false_eq_true, if_false]
theorem exec_stepCounterAdvance_boundary (hr : s.inReset = false) (h : s.timer.step = 2047) :
    exec .stepCounterAdvance s = .next s.frameBoundary := by
  simp only [exec, execStepCounterAdvance, hr, h, Bool.false_eq_true, if_false, if_true]
theorem exec_frameStart (hr : s.inReset = false) : exec .frameStart s = .next s.frameBoundary := by
  simp only [exec, execFrameStart, hr, Bool.false_eq_true, if_false]

theorem stepClock_succ {n : Nat} {t : State} (h : exec .stepCounterAdvance s = .next t) :
    stepClock (n + 1) s = stepClock n t := by simp only [stepClock, h]

/-- One step further in the frame. -/
def stepped (s : State) : State := { s with timer := { step := s.timer.step + 1, frameCount := s.timer.reached } }

theorem step_succ_val {x : StepIx} (h : x.val + 1 ≤ 2047) : (x + 1).val = x.val + 1 := by
  rw [Fin.val_add]; exact Nat.mod_eq_of_lt (by simp; omega)

/-- Within a frame the clock moves the step, and the frame count takes what was due. -/
theorem stepClock_within (n : Nat) (s : State) (hr : s.inReset = false) (h : s.timer.step.val + n ≤ 2047) :
    ∃ t : State, stepClock n s = .next t ∧ (n = 0 → t = s) ∧
      (1 ≤ n → t = { s with timer := t.timer } ∧ t.timer.step.val = s.timer.step.val + n ∧
        t.timer.frameCount = s.timer.reached ∧ t.timer.countDue = false) := by
  induction n generalizing s with
  | zero => exact ⟨s, rfl, fun _ => rfl, fun le => absurd le (by omega)⟩
  | succ n ih =>
    have inner : s.timer.step ≠ 2047 := fun e => by rw [e] at h; simp at h
    have val : (stepped s).timer.step.val = s.timer.step.val + 1 := step_succ_val (by omega)
    obtain ⟨t, run, same, moved⟩ := ih (stepped s) hr (by omega)
    refine ⟨t, (stepClock_succ (exec_stepCounterAdvance hr inner)).trans run, fun e => absurd e (by omega), fun _ => ?_⟩
    rcases Nat.eq_zero_or_pos n with rfl | pos
    · rw [same rfl]; exact ⟨rfl, val, rfl, rfl⟩
    · obtain ⟨eq, step, count, due⟩ := moved pos
      exact ⟨eq, by omega, count, due⟩

/-- The rest of the frame's steps end at the boundary. -/
theorem stepClock_boundary (n : Nat) (s : State) (hr : s.inReset = false) (h : s.timer.step.val + n = 2047) :
    stepClock (n + 1) s = .next s.frameBoundary := by
  induction n generalizing s with
  | zero =>
    rw [stepClock_succ (exec_stepCounterAdvance_boundary hr (Fin.ext h))]; rfl
  | succ n ih =>
    have inner : s.timer.step ≠ 2047 := fun e => by rw [e] at h; simp at h
    have val : (stepped s).timer.step.val = s.timer.step.val + 1 := step_succ_val (by omega)
    rw [stepClock_succ (exec_stepCounterAdvance hr inner)]
    exact ih (stepped s) hr (by omega)

/-! ## The takers of a frame start at the boundary (R184) -/

theorem frameBoundaryCountDue_waiting (s : State) :
    s.frameBoundaryCountDue.events.engineFrames = s.events.engineFrames + 1 ∧
    s.frameBoundaryCountDue.events.supplyFrames = s.events.supplyFrames + 1 ∧
    s.frameBoundaryCountDue.events.controllerFrames = s.events.controllerFrames + 1 := ⟨rfl, rfl, rfl⟩

/-- A taker for which no frame start waits does at the boundary what it does on the state that has met it. -/
theorem meetFrameStart_met (hr : s.inReset = false) (h : s.timer.step = 2047) {n : Nat} :
    s.meetFrameStart 0 = s.frameBoundaryCountDue.meetFrameStart (n + 1) := by
  rw [meetFrameStart_boundary h hr, meetFrameStart_waiting]

theorem engineFrame_met (hr : s.inReset = false) (h : s.timer.step = 2047) (none : s.events.engineFrames = 0) :
    s.engineFrame = s.frameBoundaryCountDue.engineFrame := by
  have met := meetFrameStart_met hr h (n := s.events.engineFrames)
  simp only [State.engineFrame, (frameBoundaryCountDue_waiting s).1]
  rw [← met, none]
theorem supplyFrame_met (hr : s.inReset = false) (h : s.timer.step = 2047) (none : s.events.supplyFrames = 0)
    (r : SenseReading) (l : LimitLevels) : s.supplyFrame r l = s.frameBoundaryCountDue.supplyFrame r l := by
  have met := meetFrameStart_met hr h (n := s.events.supplyFrames)
  simp only [State.supplyFrame, (frameBoundaryCountDue_waiting s).2.1]
  rw [← met, none]
theorem repackApply_met (hr : s.inReset = false) (h : s.timer.step = 2047) (none : s.events.controllerFrames = 0) :
    execRepackApply s = execRepackApply s.frameBoundaryCountDue := by
  have met := meetFrameStart_met hr h (n := s.events.controllerFrames)
  have ctl : s.frameBoundaryCountDue.ctl = s.ctl := rfl
  simp only [execRepackApply, (frameBoundaryCountDue_waiting s).2.2, ctl]
  rw [← met, none]

theorem engineFrame_of_none (out : s.inReset = true ∨ s.timer.step ≠ 2047) (none : s.events.engineFrames = 0) :
    s.engineFrame = s := by
  simp only [State.engineFrame, meetFrameStart_elsewhere out, none]
theorem supplyFrame_of_none (out : s.inReset = true ∨ s.timer.step ≠ 2047) (none : s.events.supplyFrames = 0)
    (r : SenseReading) (l : LimitLevels) : s.supplyFrame r l = s := by
  simp only [State.supplyFrame, meetFrameStart_elsewhere out, none]
theorem repackApply_of_none (out : s.inReset = true ∨ s.timer.step ≠ 2047) (none : s.events.controllerFrames = 0) :
    execRepackApply s = .next s := by
  simp only [execRepackApply, meetFrameStart_elsewhere out, none]

theorem reached_succ_val (t : FrameTimer) :
    (t.reached + 1).val = (t.frameCount.val + (if t.countDue then 1 else 0) + 1) % 65536 := by
  rw [Fin.val_add, reached_val]; simp

end

/-- Settles O46: steps within a frame, the boundary, and who meets it. -/
theorem frameTimerSteps : Obligations.FrameTimerSteps := by
  intro s due raised
  refine ⟨fun hr => ⟨if_pos hr, if_pos hr⟩, fun hr => ⟨fun n within => ?_, ?_, s.frameBoundary, exec_frameStart hr, rfl, rfl,
    reached_succ_val _, rfl, rfl⟩, fun hr h => ⟨s.frameBoundaryCountDue, ?_, rfl, reached_val _, rfl,
      fun none => congrArg Host.Outcome.next (engineFrame_met hr h none),
      fun none r l => congrArg Host.Outcome.next (supplyFrame_met hr h none r l), repackApply_met hr h⟩,
    fun out => ⟨fun none => congrArg Host.Outcome.next (engineFrame_of_none out none),
      fun none r l => congrArg Host.Outcome.next (supplyFrame_of_none out none r l), repackApply_of_none out⟩⟩
  · obtain ⟨t, run, same, moved⟩ := stepClock_within n s hr within
    refine ⟨t, run, same, fun pos => ?_⟩
    obtain ⟨eq, step, count, notDue⟩ := moved pos
    exact ⟨eq, step, by rw [count]; exact reached_val _, notDue⟩
  · have left : 2048 - s.timer.step.val = (2047 - s.timer.step.val) + 1 := by omega
    rw [left, stepClock_boundary _ s hr (by omega), exec_frameStart hr]
  · show _ = ({ s with timer := _, events := raised ((s.timer.frameCount.val + due + 1) % 65536) } : State)
    rw [← reached_succ_val]
    rfl

/-! ## Hard reset (R185) and its end (R154, R191) -/

theorem latchedAddress_eq (addr1 addr0 : Bool) :
    latchedAddress addr1 addr0 = 0x2C + (if addr1 then 2 else 0) + (if addr0 then 1 else 0) := by
  cases addr1 <;> cases addr0 <;> rfl

theorem exec_resetEnd {s : State} (hr : s.inReset = true) (addr1 addr0 onWireA onWireB : Bool) :
    exec (.resetEnd addr1 addr0 onWireA onWireB) s = .next
      { s with inReset := false, addressB := 0x2C + (if addr1 then 2 else 0) + (if addr0 then 1 else 0)
               portA := { s.portA with ignoring := onWireA }, portB := { s.portB with ignoring := onWireB } } := by
  rw [← latchedAddress_eq]; exact if_pos hr

/-- Settles O60: the values after a hard reset, the transactions ignored, and the end of a reset. -/
theorem hardResetAndEnd : Obligations.HardResetAndEnd := by
  refine ⟨fun s => ⟨s.held, rfl, rfl, rfl, rfl, rfl, rfl, fun ch => ?_, rfl, rfl, fun i => ?_, rfl, rfl, fun k => ?_, rfl,
    rfl, rfl, rfl, rfl, rfl, rfl, rfl, rfl, rfl, fun ch => ?_, rfl, fun p => ?_, rfl,
    fun addr1 addr0 onWireA onWireB mosi address bytes => ⟨rfl, rfl, rfl, exec_resetEnd rfl _ _ _ _⟩⟩,
    fun s hr => ⟨fun ignoring => ⟨fun mosi => ?_, fun n => ?_, fun kind n request read => ?_⟩,
      fun ignoring => ⟨fun address bytes => ?_, fun address n => ?_⟩⟩,
    fun s addr1 addr0 onWireA onWireB => ⟨fun hr => exec_resetEnd hr _ _ _ _, fun hr => if_neg (by rw [hr]; decide)⟩⟩
  · simp [State.held, State.reset, Configuration.reset, Profile.reset]
  · simp [State.held, State.reset, Controller.reset]
  · simp [State.held, State.reset, Controller.reset]
  · simp [State.held, State.reset, ChannelUnit.reset, State.pin]
  · cases p <;> exact ⟨rfl, rfl, rfl, rfl, rfl⟩
  · simp only [exec, execRequestTransaction, hr, ignoring, Bool.false_eq_true, if_false, if_true]; rfl
  · simp only [exec, execReadTransaction, hr, ignoring, Bool.false_eq_true, if_false, if_true]; rfl
  · have other : (s.inReset || kind == Config.kindRequest || kind == Config.kindRead) = false := by
      simp only [hr, Bool.false_or, Bool.or_eq_false_iff, beq_eq_false_iff_ne]
      exact ⟨request, read⟩
    simp only [exec, execUnknownTransactionKind, other, ignoring, Bool.false_eq_true, if_false, if_true]; rfl
  · simp only [exec, execI2cWriteTransaction, hr, ignoring, Bool.false_eq_true, if_false, if_true]; rfl
  · simp only [exec, execI2cReadTransaction, hr, ignoring, Bool.false_eq_true, if_false, if_true]; rfl

end Sys2Proof.Proofs
end

section
/-! SUPPORT. The supply tier unit's sample (O50, O51), the evaluation of readback samples (O48), pins and samples (O49). -/

namespace Sys2Proof.Proofs

open Sys2Proof Sys2Proof.Machine Sys2Proof.Safety Sys2Proof.Laws

/-! ## One sample -/

/-- The supply tier unit after a sample, but for the effective tier. -/
def sampledUnit (m : Monitor) (r : SenseReading) (l : LimitLevels) (u : TierUnit) : TierUnit :=
  { senseStep m r u with
    limit0 := limitStep m.limit0 l.limit0High (senseStep m r u).limit0
    limit1 := limitStep m.limit1 l.limit1High (senseStep m r u).limit1 }

section
variable {s : State} {r : SenseReading} {l : LimitLevels} {n : Nat}

/-- A sample taken: the unit's next state, the effective tier recomputed from it, the tier change raised (R133, R138, R139). -/
theorem exec_sample (h : s.events.supplyFrames = n + 1) (r : SenseReading) (l : LimitLevels) :
    exec (.sample r l) s = .next { s with
      supply := { sampledUnit s.config.monitor r l s.supply with
        effective := effectiveTier (sampledUnit s.config.monitor r l s.supply) s.config.monitor }
      events := { s.events with
        supplyFrames := n
        tierChanges := s.events.tierChanges +
          if effectiveTier (sampledUnit s.config.monitor r l s.supply) s.config.monitor =
            (sampledUnit s.config.monitor r l s.supply).effective then 0 else 1 } } := by
  have taken : s.supplyFrame r l = State.takeSample { s with events := { s.events with supplyFrames := n } } r l := by
    simp only [State.supplyFrame, h, meetFrameStart_waiting]
  show Host.Outcome.next (s.supplyFrame r l) = _
  rw [taken, State.takeSample, recomputeTier_eq]
  rfl

theorem senseStep_effective (m : Monitor) (r : SenseReading) (u : TierUnit) :
    (senseStep m r u).effective = u.effective ∧ (senseStep m r u).limit0 = u.limit0 ∧
      (senseStep m r u).limit1 = u.limit1 := by
  unfold senseStep
  split
  · exact ⟨rfl, rfl, rfl⟩
  · split
    · split <;> exact ⟨rfl, rfl, rfl⟩
    · split
      · split <;> exact ⟨rfl, rfl, rfl⟩
      · exact ⟨rfl, rfl, rfl⟩

/-! ## The counters (R133 to R137) -/

variable {m : Monitor} {u : TierUnit}

theorem senseStep_disabled (off : m.enabled = false) :
    senseStep m r u = { u with supplyTier := 0, down := 0, up := 0, band := 0 } := by
  simp [senseStep, off]
theorem senseStep_band (on : m.enabled = true) : (senseStep m r u).band = bandOf m r := by
  simp only [senseStep, on]
  split
  · contradiction
  · split
    · split <;> rfl
    · split
      · split <;> rfl
      · rfl
theorem senseStep_down (on : m.enabled = true) (down : isDownFrame m u r = true) (before : ¬ m.nDown ≤ u.down + 1) :
    senseStep m r u = { u with band := bandOf m r, down := u.down + 1, up := 0 } := by
  simp [senseStep, debounceFires, on, down, before]
theorem senseStep_debounced (on : m.enabled = true) (down : isDownFrame m u r = true) (fires : m.nDown ≤ u.down + 1) :
    senseStep m r u = { u with band := bandOf m r, supplyTier := bandOf m r, down := 0, up := 0 } := by
  simp [senseStep, debounceFires, on, down, fires]
theorem isUpFrame_not_down (up : isUpFrame m u r = true) : isDownFrame m u r = false := by
  simp only [isUpFrame, Bool.and_eq_true, Bool.not_eq_true'] at up
  exact up.1
theorem senseStep_up (on : m.enabled = true) (up : isUpFrame m u r = true) (before : ¬ m.holdOff ≤ u.up + 1) :
    senseStep m r u = { u with band := bandOf m r, down := 0, up := u.up + 1 } := by
  simp [senseStep, holdOffFires, on, isUpFrame_not_down up, up, before]
theorem senseStep_heldOff (on : m.enabled = true) (up : isUpFrame m u r = true) (fires : m.holdOff ≤ u.up + 1) :
    senseStep m r u = { u with band := bandOf m r, supplyTier := tierBelow u.supplyTier, down := 0, up := 0 } := by
  simp [senseStep, holdOffFires, on, isUpFrame_not_down up, up, fires]
theorem senseStep_neither (on : m.enabled = true) (down : isDownFrame m u r = false) (up : isUpFrame m u r = false) :
    senseStep m r u = { u with band := bandOf m r, down := 0, up := 0 } := by
  simp [senseStep, on, down, up]
theorem senseStep_down_of_not (on : m.enabled = true) (down : isDownFrame m u r = false) : (senseStep m r u).down = 0 := by
  cases up : isUpFrame m u r with
  | false => rw [senseStep_neither on down up]
  | true =>
    by_cases fires : m.holdOff ≤ u.up + 1
    · rw [senseStep_heldOff on up fires]
    · rw [senseStep_up on up fires]
theorem senseStep_up_of_not (on : m.enabled = true) (up : isUpFrame m u r = false) : (senseStep m r u).up = 0 := by
  cases down : isDownFrame m u r with
  | false => rw [senseStep_neither on down up]
  | true =>
    by_cases fires : m.nDown ≤ u.down + 1
    · rw [senseStep_debounced on down fires]
    · rw [senseStep_down on down fires]

theorem belowCode_toNat (microvolts code : Nat) :
    (belowCode microvolts code).toNat = if microvolts < code * 18750 then 1 else 0 := by
  show (decide (microvolts < code * 18750)).toNat = _
  split <;> simp_all

theorem isUpFrame_iff : isUpFrame m u r = true ↔ ¬ u.supplyTier < bandOf m r ∧ u.supplyTier ≠ 0 ∧
    (thresholdOf m u.supplyTier + m.hysteresis) * 18750 ≤ r.atRecovery := by
  have code : belowCode r.atRecovery (thresholdOf m u.supplyTier + m.hysteresis) =
    decide (r.atRecovery < (thresholdOf m u.supplyTier + m.hysteresis) * 18750) := rfl
  simp [isUpFrame, isDownFrame, recoveredAt, code]

theorem exec_downDebounce_idle (no : debounceFires s.config.monitor s.supply r = false) :
    exec (.downDebounce r l) s = .next s := if_neg (by rw [no]; decide)
theorem exec_downDebounce_fires (yes : debounceFires s.config.monitor s.supply r = true) :
    exec (.downDebounce r l) s = exec (.sample r l) s := if_pos yes
theorem exec_upHoldOff_idle (no : holdOffFires s.config.monitor s.supply r = false) :
    exec (.upHoldOff r l) s = .next s := if_neg (by rw [no]; decide)
theorem exec_upHoldOff_fires (yes : holdOffFires s.config.monitor s.supply r = true) :
    exec (.upHoldOff r l) s = exec (.sample r l) s := if_pos yes

end

/-- Settles O50: the sample's counters by the frame it is, and the two events as the samples that fire. -/
theorem debounceAndHoldOff : Obligations.DebounceAndHoldOff := by
  intro s r l n waits on m below band recoveryCode downFrame upFrame
  have run := exec_sample waits r l
  have bandVal : (bandOf m r).val = band := by
    simp only [bandOf, belowCode_toNat]; rfl
  have isDown : isDownFrame m s.supply r = true ↔ downFrame := by
    simp only [isDownFrame, decide_eq_true_eq, downFrame, Fin.lt_def, bandVal]
  have isUp : isUpFrame m s.supply r = true ↔ upFrame := by
    have code : thresholdOf m s.supply.supplyTier + m.hysteresis = recoveryCode := rfl
    rw [isUpFrame_iff, code, Fin.lt_def, bandVal]
  have notDown (h : ¬ downFrame) : isDownFrame m s.supply r = false := Bool.eq_false_iff.2 (mt isDown.1 h)
  have notUp (h : ¬ upFrame) : isUpFrame m s.supply r = false := Bool.eq_false_iff.2 (mt isUp.1 h)
  refine ⟨_, run, ?_, rfl, rfl, fun down before => ?_, fun down last => ?_, fun up before => ?_, fun up last => ?_,
    fun down => ?_, fun up => ?_, fun down up => ?_⟩
  · exact (congrArg Fin.val (senseStep_band on)).trans bandVal
  · have idle : ¬ m.nDown ≤ s.supply.down + 1 := by omega
    have e := senseStep_down on (isDown.2 down) idle
    exact ⟨congrArg TierUnit.down e, congrArg TierUnit.up e, (congrArg TierUnit.supplyTier e :),
      exec_downDebounce_idle (by simp only [debounceFires, Bool.and_eq_false_iff]; exact .inr (decide_eq_false idle))⟩
  · have fires : m.nDown ≤ s.supply.down + 1 := by omega
    have e := senseStep_debounced on (isDown.2 down) fires
    have tier : (senseStep m r s.supply).supplyTier = bandOf m r := congrArg TierUnit.supplyTier e
    refine ⟨congrArg TierUnit.down e, congrArg TierUnit.up e, (congrArg Fin.val tier).trans bandVal, ?_, ?_⟩
    · show s.supply.supplyTier < (senseStep m r s.supply).supplyTier
      rw [tier]; simpa [isDownFrame] using isDown.2 down
    · rw [exec_downDebounce_fires (by simp only [debounceFires, on, isDown.2 down, m, decide_eq_true fires, Bool.and_self]), run]
  · have idle : ¬ m.holdOff ≤ s.supply.up + 1 := by omega
    have e := senseStep_up on (isUp.2 up) idle
    exact ⟨congrArg TierUnit.up e, congrArg TierUnit.down e, (congrArg TierUnit.supplyTier e :),
      exec_upHoldOff_idle (by simp only [holdOffFires, Bool.and_eq_false_iff]; exact .inr (decide_eq_false idle))⟩
  · have fires : m.holdOff ≤ s.supply.up + 1 := by omega
    have e := senseStep_heldOff on (isUp.2 up) fires
    have tier : (senseStep m r s.supply).supplyTier = tierBelow s.supply.supplyTier := congrArg TierUnit.supplyTier e
    have isUpNow := isUp.2 up
    obtain ⟨-, raised, -⟩ := up
    refine ⟨congrArg TierUnit.up e, congrArg TierUnit.down e, ?_, ?_⟩
    · show (senseStep m r s.supply).supplyTier.val + 1 = _
      rw [tier]
      exact Nat.sub_add_cancel (Nat.one_le_iff_ne_zero.2 fun z => raised (Fin.ext z))
    · rw [exec_upHoldOff_fires (by simp only [holdOffFires, on, isUpNow, m, decide_eq_true fires, Bool.and_self]), run]
  · exact ⟨senseStep_down_of_not on (notDown down),
      exec_downDebounce_idle (by simp only [debounceFires, notDown down, m, Bool.and_false, Bool.false_and])⟩
  · exact ⟨senseStep_up_of_not on (notUp up),
      exec_upHoldOff_idle (by simp only [holdOffFires, notUp up, m, Bool.and_false, Bool.false_and])⟩
  · exact (congrArg TierUnit.supplyTier (senseStep_neither on (notDown down) (notUp up)) :)

/-- Two equal samples in a row decide a pin's state (R138). -/
theorem limitStep_stepped (set : LimitSetting) (high : Bool) (p : LimitPin) :
    let sample : Bool := if set.activeLow then !high else high
    (limitStep set high p).lastSample = some sample ∧
      (p.lastSample = some sample → (limitStep set high p).asserted = sample) ∧
      (p.lastSample ≠ some sample → (limitStep set high p).asserted = p.asserted) := by
  have level : (high != set.activeLow) = if set.activeLow then !high else high := by
    cases high <;> cases set.activeLow <;> rfl
  simp only [limitStep, level]
  exact ⟨trivial, fun same => if_pos same, fun differs => if_neg differs⟩

/-- Settles O51: the pins' steps, the largest of the three tiers, and the disabled monitor. -/
theorem sampleSetsEffectiveTier : Obligations.SampleSetsEffectiveTier := by
  intro s r l n waits m stepped
  obtain ⟨effective, limit0, limit1⟩ := senseStep_effective m r s.supply
  refine ⟨_, exec_sample waits r l, rfl, ?_, ?_, rfl, ?_, fun off => ?_⟩
  · have pin := limitStep_stepped m.limit0 l.limit0High s.supply.limit0
    rw [← limit0] at pin ⊢
    exact pin
  · have pin := limitStep_stepped m.limit1 l.limit1High s.supply.limit1
    rw [← limit1] at pin ⊢
    exact pin
  · rw [← effective]; rfl
  · have e : senseStep m r s.supply = _ := senseStep_disabled off
    exact ⟨congrArg TierUnit.supplyTier e, congrArg TierUnit.down e, congrArg TierUnit.up e, congrArg TierUnit.band e⟩

end Sys2Proof.Proofs
end

section
/-! SUPPORT. The evaluation of readback samples and the frame start that makes a channel FAULTED (O48), and the pins and the
sample steps (O49). -/

namespace Sys2Proof.Proofs

open Sys2Proof Sys2Proof.Machine Sys2Proof.Safety Sys2Proof.Laws

/-! ## The evaluation of one channel (R163) -/

section
variable {u : ChannelUnit} {p : Profile}

theorem evaluate_faulted (h : u.fault = .faulted) : u.evaluate p = u := by simp [ChannelUnit.evaluate, h]
theorem evaluate_unchecked (ok : u.fault = .ok) (off : p.checked = false) : u.evaluate p = { u with mismatches := 0 } := by
  simp [ChannelUnit.evaluate, ok, off]
theorem evaluate_faulting (h : u.faultsNow p = true) :
    u.evaluate p = { u with mismatches := 3, fault := .faulted, window := none } := by
  have parts := h
  simp only [ChannelUnit.faultsNow, Bool.and_eq_true, beq_iff_eq] at parts
  obtain ⟨⟨⟨ok, on⟩, -⟩, -⟩ := parts
  simp [ChannelUnit.evaluate, ok, on, h, Config.faultCount]
theorem evaluate_mismatched (ok : u.fault = .ok) (on : p.checked = true) (h : u.anyMismatch = true) (few : u.mismatches ≤ 1) :
    u.evaluate p = { u with mismatches := u.mismatches + 1 } := by
  have notYet : u.faultsNow p = false := by
    have three : Config.faultCount = 3 := rfl
    simp only [ChannelUnit.faultsNow, Bool.and_eq_false_iff, decide_eq_false_iff_not]
    exact .inr (by omega)
  simp [ChannelUnit.evaluate, ok, on, h, notYet]
theorem evaluate_matched (ok : u.fault = .ok) (on : p.checked = true) (h : u.anyMismatch = false) (some : u.anySample = true) :
    u.evaluate p = { u with mismatches := 0 } := by
  simp [ChannelUnit.evaluate, ChannelUnit.faultsNow, ok, on, h, some]
theorem evaluate_unsampled (ok : u.fault = .ok) (on : p.checked = true) (none : u.anySample = false) : u.evaluate p = u := by
  have still : u.anyMismatch = false := by
    simp only [ChannelUnit.anySample, Bool.or_eq_false_iff, bne_eq_false_iff_eq] at none
    simp [ChannelUnit.anyMismatch, none.1, none.2]
  simp [ChannelUnit.evaluate, ChannelUnit.faultsNow, ok, on, still, none]

theorem anyMismatch_iff : u.anyMismatch = true ↔ u.inside = .mismatched ∨ u.outside = .mismatched := by
  simp [ChannelUnit.anyMismatch]
theorem checked_iff : p.checked = true ↔ p.enabled = true ∧ p.readback = true := by simp [Profile.checked]
theorem faultsNow_iff : u.faultsNow p = true ↔ u.fault = .ok ∧ p.enabled = true ∧ p.readback = true ∧ 2 ≤ u.mismatches ∧
    (u.inside = .mismatched ∨ u.outside = .mismatched) := by
  have three : Config.faultCount = 3 := rfl
  simp only [ChannelUnit.faultsNow, Bool.and_eq_true, beq_iff_eq, checked_iff, anyMismatch_iff, decide_eq_true_eq]
  constructor
  · rintro ⟨⟨⟨ok, en, rb⟩, mis⟩, count⟩; exact ⟨ok, en, rb, by omega, mis⟩
  · rintro ⟨ok, en, rb, count, mis⟩; exact ⟨⟨⟨ok, en, rb⟩, mis⟩, by omega⟩

end

/-! ## The frame start at the engine (R156) -/

section
variable {s : State} {n : Nat}

theorem engineFrame_of_waiting (h : s.events.engineFrames = n + 1) : s.engineFrame =
    ({ s with events := { s.events with engineFrames := n } }.evaluateAll.capture).clearSamples := by
  simp only [State.engineFrame, h, meetFrameStart_waiting]

theorem clearSamples_engine (s : State) (ch : Channel) : s.clearSamples.engine[ch] = s.engine[ch].clearSamples := by
  simp [State.clearSamples]
theorem evaluateAll_engine (s : State) (ch : Channel) :
    s.evaluateAll.engine[ch] = s.engine[ch].evaluate s.config.profiles[ch] := by
  simp [State.evaluateAll]

/-- The controller whose grants the capture reads. -/
def capturedFrom (s : State) : Controller := if s.running then s.ctl.stepRamps else s.ctl

/-- The window a capture gives a channel. -/
def windowAt (s : State) (ch : Channel) : Option Window :=
  if s.running then capturedWindow s.ctl.stepRamps s.engine[ch] ch else none

theorem capture_engine (s : State) (ch : Channel) :
    s.capture.engine[ch] = { s.engine[ch] with window := windowAt s ch, captured := windowAt s ch } := by
  unfold State.capture windowAt
  split <;> simp

theorem windowAt_faulted {ch : Channel} (h : s.engine[ch].fault = .faulted) : windowAt s ch = none := by
  unfold windowAt
  split
  · simp only [capturedWindow, h, if_true]
  · rfl

theorem capture_channelFaults (s : State) : s.capture.events.channelFaults = s.events.channelFaults := by
  unfold State.capture; split <;> rfl

/-- A channel's unit after a frame start: evaluated, its window captured, its samples cleared. -/
theorem engineFrame_engine (h : s.events.engineFrames = n + 1) (ch : Channel) : s.engineFrame.engine[ch] =
    { s.engine[ch].evaluate s.config.profiles[ch] with
      window := windowAt { s with events := { s.events with engineFrames := n } }.evaluateAll ch
      captured := windowAt { s with events := { s.events with engineFrames := n } }.evaluateAll ch
      inside := .notTaken, outside := .notTaken } := by
  rw [engineFrame_of_waiting h, clearSamples_engine, capture_engine, evaluateAll_engine]
  rfl

theorem engineFrame_channelFaults (h : s.events.engineFrames = n + 1) :
    s.engineFrame.events.channelFaults = s.events.channelFaults ++ s.faultingChannels := by
  rw [engineFrame_of_waiting h]
  exact capture_channelFaults _

end

/-- Settles O48: the evaluation by case, and a faulting channel followed through the frame start. -/
theorem evaluationFaultsChannel : Obligations.EvaluationFaultsChannel := by
  refine ⟨fun u p => ⟨evaluate_faulted, fun ok off => ?_, fun ok en rb => ⟨fun i o => ?_, fun i o some => ?_,
    fun mis few => ?_, fun mis two => ?_⟩⟩, fun s n ch waits => ?_⟩
  · exact evaluate_unchecked ok (by rcases off with off | off <;> simp [Profile.checked, off])
  · exact evaluate_unsampled ok (checked_iff.2 ⟨en, rb⟩) (by simp [ChannelUnit.anySample, i, o])
  · exact evaluate_matched ok (checked_iff.2 ⟨en, rb⟩) (by simp [ChannelUnit.anyMismatch, i, o])
      (by rcases some with e | e <;> simp [ChannelUnit.anySample, e])
  · exact evaluate_mismatched ok (checked_iff.2 ⟨en, rb⟩) (anyMismatch_iff.2 mis) few
  · exact evaluate_faulting (faultsNow_iff.2 ⟨ok, en, rb, by omega, mis⟩)
  · intro faulting
    have iff : s.engine[ch].faultsNow s.config.profiles[ch] = true ↔ faulting := faultsNow_iff
    have unit := engineFrame_engine waits ch
    refine ⟨fun no => if_neg (mt iff.1 no), s.engineFrame, rfl, by rw [unit], by rw [unit], fun yes => ⟨if_pos (iff.2 yes), ?_⟩,
      s.faultingChannels, engineFrame_channelFaults waits, (List.nodup_finRange 16).filter _, ?_⟩
    · have now := evaluate_faulting (iff.2 yes)
      have blank : windowAt { s with events := { s.events with engineFrames := n } }.evaluateAll ch = none :=
        windowAt_faulted (by rw [evaluateAll_engine]; exact congrArg ChannelUnit.fault now)
      rw [unit, blank, now]
      exact ⟨rfl, rfl, rfl⟩
    · rw [← iff]
      simp only [State.faultingChannels, allChannels, List.mem_filter, List.mem_finRange, true_and]

/-! ## Pins (R159, R160) -/

/-- A window covers the steps counted from its start (R33). -/
theorem windowCovers_eq (w : Window) (k : StepIx) :
    windowCovers w k = (List.range w.length).any fun n => k.val == (w.start.val + n) % 2048 := by
  have hk := k.isLt
  have hw := w.start.isLt
  rw [Bool.eq_iff_iff, List.any_eq_true]
  simp only [windowCovers, decide_eq_true_eq, List.mem_range, beq_iff_eq]
  constructor
  · intro h; exact ⟨_, h, by omega⟩
  · rintro ⟨n, hn, e⟩; omega

theorem pinDriveOf_eq (p : Profile) (active : Bool) : pinDriveOf p active =
    match p.drive, p.polarity with
    | .pushPull, .activeHigh => if active then .high else .low
    | .pushPull, .activeLow => if active then .low else .high
    | .openDrain, .activeHigh => if active then .released else .low
    | .openDrain, .activeLow => if active then .low else .released := by
  unfold pinDriveOf
  cases p.drive <;> cases p.polarity <;> cases active <;> rfl

theorem channelActive_eq {s : State} (hr : s.inReset = false) (ch : Channel) : s.channelActive ch =
    s.engine[ch].window.any fun w => (List.range w.length).any fun n => s.timer.step.val == (w.start.val + n) % 2048 := by
  simp only [State.channelActive, hr, Bool.not_false, Bool.true_and, windowCovers_eq]

/-! ## Readback samples (R162) -/

section
variable {s : State} {ch : Channel} {high : Bool}

theorem samples_iff : s.samples ch = true ↔ s.inReset = false ∧ s.events.engineFrames = 0 ∧
    s.config.profiles[ch].enabled = true ∧ s.config.profiles[ch].readback = true ∧ s.engine[ch].fault = .ok := by
  simp only [State.samples, Bool.and_eq_true, Bool.not_eq_true', beq_iff_eq, checked_iff]
  tauto

theorem exec_readbackSample_unchecked (no : ¬ s.samples ch = true) : exec (.readbackSample ch high) s = .next s :=
  if_pos (by simpa using no)

theorem exec_readbackSample_inside (yes : s.samples ch = true) (at_ : s.engine[ch].insideStep = some s.timer.step)
    (open_ : s.engine[ch].inside = .notTaken) : exec (.readbackSample ch high) s = .next
      { s with engine := s.engine.set ch { s.engine[ch] with inside := s.sampleMark ch high } } := by
  simp only [exec, execReadbackSample, yes, Bool.not_true, Bool.false_eq_true, if_false]
  exact if_pos ⟨at_, open_⟩

theorem exec_readbackSample_outside (yes : s.samples ch = true) (notInside : s.engine[ch].insideStep ≠ some s.timer.step)
    (at_ : s.engine[ch].outsideStep = some s.timer.step) (open_ : s.engine[ch].outside = .notTaken) :
    exec (.readbackSample ch high) s = .next
      { s with engine := s.engine.set ch { s.engine[ch] with outside := s.sampleMark ch high } } := by
  simp only [exec, execReadbackSample, yes, Bool.not_true, Bool.false_eq_true, if_false]
  exact (if_neg fun h => notInside h.1).trans (if_pos ⟨at_, open_⟩)

theorem exec_readbackSample_elsewhere (notInside : s.engine[ch].insideStep ≠ some s.timer.step)
    (notOutside : s.engine[ch].outsideStep ≠ some s.timer.step) : exec (.readbackSample ch high) s = .next s := by
  show execReadbackSample ch high s = _
  unfold execReadbackSample
  split
  · rfl
  · exact (if_neg fun h => notInside h.1).trans (if_neg fun h => notOutside h.1)

theorem sampleMark_eq : s.sampleMark ch high =
    if high = ((s.config.profiles[ch].polarity == .activeHigh) == s.channelActive ch) then .matched else .mismatched := by
  have level : commandedHigh s.config.profiles[ch] (s.channelActive ch) =
      ((s.config.profiles[ch].polarity == .activeHigh) == s.channelActive ch) := by
    unfold commandedHigh
    cases s.config.profiles[ch].polarity <;> cases s.channelActive ch <;> rfl
  rw [State.sampleMark, level]

theorem insideStep_iff {u : ChannelUnit} {w : Window} (h : u.captured = some w) (k : StepIx) :
    u.insideStep = some k ↔ k.val = (w.start.val + w.length / 2) % 2048 := by
  simp [ChannelUnit.insideStep, h, stepAfter, Fin.ext_iff, eq_comm]

theorem outsideStep_iff {u : ChannelUnit} {w : Window} (h : u.captured = some w) (k : StepIx) :
    u.outsideStep = some k ↔ w.length < 2048 ∧ k.val = (w.start.val + w.length + (2048 - w.length) / 2) % 2048 := by
  simp only [ChannelUnit.outsideStep, h]
  split
  · rename_i short; simp [short, stepAfter, Fin.ext_iff, eq_comm, Nat.add_assoc]
  · rename_i full; simp [full]

end

/-- Settles O49: the drive of a pin, and the sample steps with their comparison. -/
theorem pinsAndReadbackSamples : Obligations.PinsAndReadbackSamples := by
  refine ⟨fun s ch => ⟨fun hr => if_pos hr, fun hr => ?_⟩, fun s ch high => ?_⟩
  · intro profile active
    have drive : s.pin ch = pinDriveOf profile active := by
      rw [State.pin, hr, channelActive_eq hr]; rfl
    exact drive.trans (pinDriveOf_eq ..)
  · intro u checked commanded mark sampled
    have iff : s.samples ch = true ↔ checked := samples_iff
    have marked : s.sampleMark ch high = mark := sampleMark_eq
    refine ⟨fun no => exec_readbackSample_unchecked (mt iff.1 no), fun yes => ⟨fun none at_ open_ => ?_, fun none off => ?_,
      fun w hw pos le => ⟨fun at_ open_ => ?_, fun short at_ open_ => ?_, fun notIn notOut => ?_⟩⟩⟩
    · have inside : u.insideStep = Option.none := by simp [ChannelUnit.insideStep, none]
      have outside : u.outsideStep = some s.timer.step := by simp [ChannelUnit.outsideStep, none, at_]
      show exec _ s = _
      rw [exec_readbackSample_outside (iff.2 yes) (by rw [inside]; simp) outside open_, marked]
    · have inside : u.insideStep = Option.none := by simp [ChannelUnit.insideStep, none]
      have outside : u.outsideStep = some 1024 := by simp [ChannelUnit.outsideStep, none]
      exact exec_readbackSample_elsewhere (by rw [inside]; simp)
        (by rw [outside]; exact fun e => off (Option.some.inj e).symm)
    · show exec _ s = _
      rw [exec_readbackSample_inside (iff.2 yes) ((insideStep_iff hw _).2 at_) open_, marked]
    · have apart : ¬ s.timer.step.val = (w.start.val + w.length / 2) % 2048 := by
        have hstart := w.start.isLt
        omega
      show exec _ s = _
      rw [exec_readbackSample_outside (iff.2 yes) (mt (insideStep_iff hw _).1 apart)
        ((outsideStep_iff hw _).2 ⟨short, at_⟩) open_, marked]
    · refine exec_readbackSample_elsewhere (mt (insideStep_iff hw _).1 notIn) (mt (outsideStep_iff hw _).1 ?_)
      rintro ⟨short, at_⟩
      rcases notOut with full | off
      · omega
      · exact off at_

end Sys2Proof.Proofs
end

section
/-! SUPPORT. What an event of the grant controller leaves alone, with and without a held request answered in it; then the choice of
the next grant to shed (O54) and the tier changes (O52, O53). -/

namespace Sys2Proof.Proofs

open Sys2Proof Sys2Proof.Machine Sys2Proof.Safety Sys2Proof.Laws

/-! ## The frame of an event -/

section
variable {s u : State} {p : Port} {held : HeldRequest}

theorem eventKept_events (s : State) (e : Events) : EventKept s { s with events := e } :=
  ⟨rfl, rfl, rfl, rfl, rfl, rfl, rfl, rfl, ⟨rfl, rfl, rfl, rfl, rfl, rfl⟩, ⟨rfl, rfl, rfl, rfl, rfl, rfl⟩⟩
theorem eventKept_withCtl (h : EventKept s u) (c : Controller) : EventKept s (u.withCtl c) := h
theorem eventKept_settle (h : EventKept s u) (b : Bool) : EventKept s (u.settle b) := h

theorem eventKeptHeld_withCtl (h : EventKeptHeldAnswered s u held) (c : Controller) :
    EventKeptHeldAnswered s (u.withCtl c) held := by
  obtain ⟨kind, client, port, rest⟩ := held
  cases port <;> exact h
theorem eventKeptHeld_settle (h : EventKeptHeldAnswered s u held) (b : Bool) :
    EventKeptHeldAnswered s (u.settle b) held := by
  obtain ⟨kind, client, port, rest⟩ := held
  cases port <;> exact h

theorem heldAnswerKept_answerHeld (s : State) (held : HeldRequest) (r : Result) (pl : List Byte) :
    HeldAnswerKept s ((s.endRepack.dropPlan).answerHeld held r pl) held := by
  refine ⟨?_, ?_, ?_, ?_, ?_, ?_, ?_, ?_, ?_, ?_, ?_⟩ <;> simp
theorem eventKeptHeld_answerHeld (s : State) (held : HeldRequest) (r : Result) (pl : List Byte) :
    EventKeptHeldAnswered s ((s.endRepack.dropPlan).answerHeld held r pl) held := by
  refine ⟨heldAnswerKept_answerHeld s held r pl, by simp, ?_⟩
  unfold PortKept
  simp

/-- An abandonment answers the held request and leaves everything else alone (R95). -/
theorem eventKeptHeld_abandon (flying : s.ctl.inFlight = true) (hh : s.ctl.held = some held) (r : Result) :
    EventKeptHeldAnswered s (s.abandon r) held := by
  rw [abandon_of_held flying hh]; exact eventKeptHeld_answerHeld s held r []

/-! ## The frame of a request that abandons the repack of the other port -/

theorem requestKeptHeld_abandon (flying : s.ctl.inFlight = true) (hh : s.ctl.held = some held) (ne : held.port ≠ p)
    (req : Request) (r : Result) : RequestKeptHeldAnswered s ((s.markTaken p req).abandon r) p held := by
  rw [abandon_of_held (by rwa [markTaken_ctl]) (by rwa [markTaken_ctl])]
  have kept := heldAnswerKept_answerHeld (s.markTaken p req) held r []
  obtain ⟨kind, client, port, rest⟩ := held
  cases p <;> cases port
  · exact absurd rfl ne
  · exact ⟨kept, rfl, rfl, rfl, rfl, rfl⟩
  · exact ⟨kept, rfl, rfl, rfl, rfl, rfl⟩
  · exact absurd rfl ne
theorem requestKeptHeld_withCtl (h : RequestKeptHeldAnswered s u p held) (c : Controller) :
    RequestKeptHeldAnswered s (u.withCtl c) p held := by
  obtain ⟨kind, client, port, rest⟩ := held
  cases p <;> cases port <;> exact h
theorem requestKeptHeld_settle (h : RequestKeptHeldAnswered s u p held) (b : Bool) :
    RequestKeptHeldAnswered s (u.settle b) p held := by
  obtain ⟨kind, client, port, rest⟩ := held
  cases p <;> cases port <;> exact h
theorem requestKeptHeld_answer (h : RequestKeptHeldAnswered s u p held) (who : Client) (client code : Byte) (r : Result)
    (pl : List Byte) : RequestKeptHeldAnswered s (answer ⟨p, who, client, code⟩ r pl u) p held := by
  obtain ⟨kind, hclient, port, rest⟩ := held
  cases p <;> cases port <;> exact h

end

/-! ## The controller after its pass -/

theorem settle_sameButSummaries (u : State) (b : Bool) :
    SameButSummaries (u.settle b).ctl (u.ctl.passIf u.config.profiles b) := rfl

section
variable {c d : Controller} {profiles : Vector Profile 16} {i : SlotIx}

theorem passIf_ceilings (b : Bool) : CeilingsAndRepackKept c (c.passIf profiles b) := by
  unfold Controller.passIf
  split
  · exact retryPass_ceilings profiles c
  · exact ceilingsKept_refl c

/-- At TIER3 a pass leaves no grant ACTIVE that was not (R77). -/
theorem passIf_of_tier3 (three : c.tierInForce = 3) (none : ∀ i, (c.grantAt i).any Grant.isActive = false) (b : Bool) :
    ∀ i, ((c.passIf profiles b).grantAt i).any Grant.isActive = false := by
  refine (passIf_induct (motive := fun d => d.tierInForce = 3 ∧ ∀ i, (d.grantAt i).any Grant.isActive = false)
    ⟨three, none⟩ fun d i ⟨tier, still⟩ => ⟨(visit_ceilings profiles d i).1.trans tier, fun j => ?_⟩).2
  by_cases ne : j = i
  · subst ne
    cases hg : d.grantAt j with
    | none => rw [visit_of_free hg, hg]; rfl
    | some g =>
      rcases visit_grantAt (profiles := profiles) hg with ⟨v, -⟩ | ⟨-, v | ⟨start, below, -⟩⟩
      · rw [v, ← hg]; exact still j
      · rw [v]; rfl
      · exact absurd tier below
  · rw [visit_grantAt_of_ne ne]; exact still j

/-! ## The choice of the next grant to shed (R144) -/

/-- The choice so far, and a later member that is no higher takes its place (R144 step 3). -/
def laterLowest (prio : SlotIx → Priority) (best : Option SlotIx) (i : SlotIx) : Option SlotIx :=
  match best with
  | none => some i
  | some b => if prio i ≤ prio b then some i else some b

theorem shedChoice_eq (c : Controller) (test : Grant → Bool) : c.shedChoice test =
    (c.admission.filter fun i => (c.grantAt i).any fun g => g.isActive && test g).foldl (laterLowest c.priorityAt) none := rfl

/-- The last of lowest priority among the members that meet the test. -/
theorem lastLowest_split (prio : SlotIx → Priority) (test : SlotIx → Bool) (l : List SlotIx) :
    match (l.filter test).foldl (laterLowest prio) none with
    | none => ∀ j ∈ l, test j = false
    | some i => test i = true ∧ ∃ before after, l = before ++ i :: after ∧
        (∀ j ∈ before, test j = true → prio i ≤ prio j) ∧ ∀ j ∈ after, test j = true → prio i < prio j := by
  induction l using List.reverseRecOn with
  | nil => simp
  | append_singleton l x ih =>
    rw [List.filter_append, List.foldl_append]
    cases hx : test x with
    | false =>
      simp only [List.filter_singleton, hx, cond_false, List.foldl_nil]
      split at ih
      · intro j hj
        rcases List.mem_append.1 hj with hj | hj
        · exact ih j hj
        · rw [List.mem_singleton.1 hj, hx]
      · obtain ⟨meets, before, after, rfl, low, high⟩ := ih
        refine ⟨meets, before, after ++ [x], by simp, low, fun j hj tj => ?_⟩
        rcases List.mem_append.1 hj with hj | hj
        · exact high j hj tj
        · rw [List.mem_singleton.1 hj, hx] at tj; cases tj
    | true =>
      simp only [List.filter_singleton, hx, cond_true, List.foldl_cons, List.foldl_nil]
      split at ih <;> rename_i e <;> simp only [e, laterLowest]
      · refine ⟨hx, l, [], by simp, fun j hj tj => ?_, fun j hj => by cases hj⟩
        rw [ih j hj] at tj; cases tj
      · rename_i b
        obtain ⟨meets, before, after, rfl, low, high⟩ := ih
        by_cases le : prio x ≤ prio b
        · rw [if_pos le]
          refine ⟨hx, before ++ b :: after, [], by simp, fun j hj tj => ?_, fun j hj => by cases hj⟩
          rcases List.mem_append.1 hj with hj | hj
          · exact le.trans (low j hj tj)
          · rcases List.mem_cons.1 hj with rfl | hj
            · exact le
            · exact le.trans (high j hj tj).le
        · rw [if_neg le]
          refine ⟨meets, before, after ++ [x], by simp, low, fun j hj tj => ?_⟩
          rcases List.mem_append.1 hj with hj | hj
          · exact high j hj tj
          · rw [List.mem_singleton.1 hj]; exact lt_of_not_ge le

/-- A candidate of lowest priority, and among equals the one latest in the admission list (R144 step 3). -/
theorem shedChoice_lowest (lists : ListsExact c) {test : Grant → Bool} {candidate : Grant → Prop}
    (is : ∀ g, g.isActive = true → (test g = true ↔ candidate g)) (h : c.shedChoice test = some i) :
    ∃ g before after, c.grantAt i = some g ∧ g.isActive = true ∧ candidate g ∧ c.admission = before ++ i :: after ∧
      ∀ j gj, c.grantAt j = some gj → gj.isActive = true → candidate gj →
        g.priority ≤ gj.priority ∧ (gj.priority = g.priority → j ∈ before ∨ j = i) := by
  obtain ⟨-, -, -, admitted, -⟩ := lists
  have chosen := lastLowest_split c.priorityAt (fun i => (c.grantAt i).any fun g => g.isActive && test g) c.admission
  rw [← shedChoice_eq, h] at chosen
  obtain ⟨meets, before, after, split, low, high⟩ := chosen
  obtain ⟨g, hg, both⟩ := (Option.any_eq_true _ _).1 meets
  rw [Bool.and_eq_true] at both
  refine ⟨g, before, after, hg, both.1, (is g both.1).1 both.2, split, fun j gj hj active cand => ?_⟩
  have member : j ∈ c.admission := (admitted j).2 (by rw [hj]; exact active)
  have tested : ((c.grantAt j).any fun g => g.isActive && test g) = true := by
    rw [hj]; simp [active, (is gj active).2 cand]
  rw [split] at member
  rw [← priorityAt_of_some hg, ← priorityAt_of_some hj]
  rcases List.mem_append.1 member with m | m
  · exact ⟨low j m tested, fun _ => .inl m⟩
  · rcases List.mem_cons.1 m with rfl | m
    · exact ⟨le_rfl, fun _ => .inr rfl⟩
    · exact ⟨(high j m tested).le, fun e => absurd e (high j m tested).ne'⟩

theorem overloaded_of_first {k : Segment} (above : c.peakInForce < c.loadMap[k])
    (first : ∀ k' : Segment, k' < k → c.loadMap[k'] ≤ c.peakInForce) : c.overloaded = some k := by
  refine List.find?_eq_some_iff_getElem.2 ⟨by simpa using above, k.val, by simp [allSegments], by simp [allSegments],
    fun j hj => ?_⟩
  simpa [allSegments] using first ⟨j, hj.trans k.isLt⟩ hj
theorem overloaded_of_none (h : ∀ k : Segment, c.loadMap[k] ≤ c.peakInForce) : c.overloaded = none :=
  List.find?_eq_none.2 fun k _ => by simpa using h k

theorem nextShed_tier3 (three : c.tierInForce = 3) : c.nextShed = c.shedChoice fun _ => true := by
  simp [Controller.nextShed, Controller.atTier3, three]
theorem nextShed_peak (below : c.tierInForce ≠ 3) {k : Segment} (h : c.overloaded = some k) :
    c.nextShed = c.shedChoice fun g => g.coversSegment k := by
  simp [Controller.nextShed, Controller.atTier3, below, h]
theorem nextShed_charge (below : c.tierInForce ≠ 3) (h : c.overloaded = none) :
    c.nextShed = if c.chargeInForce < c.totalCharge then c.shedChoice fun g => decide (1 ≤ g.room) else none := by
  simp [Controller.nextShed, Controller.atTier3, below, h]

theorem coversSegment_iff (g : Grant) (k : Segment) :
    g.coversSegment k = true ↔ ∃ start r, g.state = .active start r ∧ covers start r k = true := by
  unfold Grant.coversSegment
  cases h : g.state <;> simp
theorem room_pos_iff (g : Grant) : 1 ≤ g.room ↔ ∃ start r, g.state = .active start r ∧ 1 ≤ r := by
  unfold Grant.room
  cases h : g.state <;> simp

end

/-- Settles O54: the three tests of the choice, each read off the last of lowest priority. -/
theorem shedChoosesLowestLatest : Obligations.ShedChoosesLowestLatest := by
  intro c i lists next lowest
  refine ⟨fun three => ?_, fun below => ⟨fun k above first => ?_, fun within => ?_⟩⟩
  · rw [nextShed_tier3 three] at next
    exact shedChoice_lowest lists (fun _ _ => ⟨fun _ => trivial, fun _ => rfl⟩) next
  · rw [nextShed_peak below (overloaded_of_first above first)] at next
    exact shedChoice_lowest lists (fun g _ => coversSegment_iff g k) next
  · rw [nextShed_charge below (overloaded_of_none within)] at next
    split at next
    · rename_i exceeds
      exact ⟨exceeds, shedChoice_lowest lists (fun g _ => by rw [decide_eq_true_eq]; exact room_pos_iff g) next⟩
    · cases next

end Sys2Proof.Proofs
end

section
/-! SUPPORT. The tier changes: a ceiling load and a rise (O52), a drop with its sheds (O53). -/

namespace Sys2Proof.Proofs

open Sys2Proof Sys2Proof.Machine Sys2Proof.Safety Sys2Proof.Laws

section
variable {s : State} {n : Nat}

theorem exec_tierChange (h : s.events.tierChanges = n + 1) : exec .tierChange s =
    .next (State.takeTierChange { s with events := { s.events with tierChanges := n } }) := by
  simp only [exec, execTierChange, h]

theorem takeTierChange_same (h : s.supply.effective = s.ctl.tierInForce) : s.takeTierChange = s := if_pos h
theorem takeTierChange_inConfig (h : s.supply.effective ≠ s.ctl.tierInForce) (hm : s.running = false) :
    s.takeTierChange = s.withCtl (s.ctl.loadTier s.config.tiers s.supply.effective) := by
  simp [State.takeTierChange, h, hm]
theorem takeTierChange_rise (h : s.supply.effective < s.ctl.tierInForce) (hm : s.running = true) :
    s.takeTierChange = s.tierRise s.supply.effective := by
  simp [State.takeTierChange, h.ne, not_lt_of_gt h, hm]
theorem takeTierChange_drop (h : s.ctl.tierInForce < s.supply.effective) (hm : s.running = true) :
    s.takeTierChange = s.tierDrop s.supply.effective := by
  simp [State.takeTierChange, h.ne', h, hm]

theorem inFlight_congr {c d : Controller} (h : d.repack = c.repack) : d.inFlight = c.inFlight := by
  simp only [Controller.inFlight, h]

end

/-- Settles O52: no change, a load, and a rise with its pass. -/
theorem tierChangeLoadsCeilings : Obligations.TierChangeLoadsCeilings := by
  intro s n waits taken ceilings loaded
  have load : taken.ctl.loadTier taken.config.tiers taken.supply.effective = loaded := rfl
  refine ⟨fun same => ?_, fun differs hm => ?_, fun rises hm => ?_⟩
  · exact (exec_tierChange waits).trans (congrArg Host.Outcome.next (takeTierChange_same same))
  · exact (exec_tierChange waits).trans (congrArg Host.Outcome.next
      (takeTierChange_inConfig differs (not_running_of_mode (s := taken) (by show s.config.mode ≠ _; rw [hm]; decide))))
  · refine ⟨_, (exec_tierChange waits).trans (congrArg Host.Outcome.next (takeTierChange_rise rises (running_of_mode hm))), ?_⟩
    refine ⟨eventKept_settle (eventKept_withCtl (eventKept_events s _) _) _, rfl, rfl, settle_exact _ _, fun flying => ?_,
      fun idle => ?_⟩
    · have held : loaded.passIf s.config.profiles true = loaded :=
        passIf_of_inFlight (c := loaded) flying _ _
      rw [← held]
      exact settle_sameButSummaries _ _
    · have runs : loaded.passIf s.config.profiles true = loaded.retryPass s.config.profiles :=
        passIf_of_idle (c := loaded) idle _
      rw [← runs]
      exact settle_sameButSummaries _ _

/-! ## The sheds of a drop (R143 to R146) -/

section
variable {c : Controller} {profiles : Vector Profile 16}

/-- A drop leaves a slot, or has shed its ACTIVE grant once (R145). -/
theorem shedAll_slots (i : SlotIx) : (c.shedAll profiles).table[i] = c.table[i] ∨
    ∃ g : Grant, c.grantAt i = some g ∧ g.isActive = true ∧ (c.shedAll profiles).table[i] =
      ⟨c.table[i].generation, some { g with state := .deferred, notices := { g.notices with shed := true } }⟩ := by
  refine shedAll_induct (profiles := profiles) (c := c) (motive := fun d => d.table[i] = c.table[i] ∨
    ∃ g : Grant, c.grantAt i = some g ∧ g.isActive = true ∧ d.table[i] =
      ⟨c.table[i].generation, some { g with state := .deferred, notices := { g.notices with shed := true } }⟩)
    (.inl rfl) fun d j next hd => ?_
  by_cases ne : i = j
  · subst ne
    obtain ⟨-, g, hg, active⟩ := nextShed_mem next
    rcases hd with same | ⟨g₀, -, -, now⟩
    · right
      refine ⟨g, by rw [grantAt_def, ← same, ← grantAt_def, hg], active, ?_⟩
      rw [shed_slot hg, same]
    · rw [grantAt_def, now] at hg
      cases hg
      cases active
  · rw [shed_slot_of_ne _ _ ne]; exact hd

/-- The sheds of a drop in their order, each the choice on what the ones before it left (R144). -/
theorem shedLoop_sheds (n : Nat) (c : Controller) : ∃ sheds : List SlotIx,
    shedLoop profiles n c = sheds.foldl (fun d i => d.shed profiles i) c ∧
    ∀ before i after, sheds = before ++ i :: after →
      (before.foldl (fun d i => d.shed profiles i) c).nextShed = some i := by
  induction n generalizing c with
  | zero => exact ⟨[], rfl, fun before i after e => by simp at e⟩
  | succ n ih =>
    cases hn : c.nextShed with
    | none => exact ⟨[], by simp only [shedLoop, hn, List.foldl_nil], fun before i after e => by simp at e⟩
    | some x =>
      obtain ⟨sheds, loop, choice⟩ := ih (c.shed profiles x)
      refine ⟨x :: sheds, by simp only [shedLoop, hn, List.foldl_cons, loop], fun before i after e => ?_⟩
      cases before with
      | nil =>
        rw [List.nil_append, List.cons.injEq] at e
        rw [List.foldl_nil, hn, e.1]
      | cons y before =>
        rw [List.cons_append, List.cons.injEq] at e
        rw [List.foldl_cons, ← e.1]
        exact choice before i after e.2

/-- Within the ceilings nothing is shed. -/
theorem shedAll_of_within (below : c.tierInForce ≠ 3) (within : WithinCeilings c) : c.shedAll profiles = c := by
  have none : c.nextShed = none := by
    rw [nextShed_charge below (overloaded_of_none within.1), if_neg (Nat.not_lt.2 within.2)]
  unfold Controller.shedAll
  cases c.admission.length with
  | zero => rfl
  | succ n => simp only [shedLoop, none]

/-- The controller of a drop before its pass. -/
def dropped (c : Controller) (table : TierTable) (tier : Tier) (profiles : Vector Profile 16) : Controller :=
  (c.loadTier table tier).shedAll profiles

variable {table : TierTable} {tier : Tier}

theorem dropped_kept : CeilingsAndRepackKept (c.loadTier table tier) (dropped c table tier profiles) :=
  shedAll_ceilings profiles _

theorem dropped_lists (h : ListsExact c) : ListsExact (dropped c table tier profiles) :=
  shedAll_listsExact (listsExact_of_grants h (loadTier_waiting _ _ _) (loadTier_admission _ _ _)
    fun j => grantAt_of_table (loadTier_table _ _ _) j) profiles

theorem dropped_within (lists : ListsExact c) (exact : AccountExact profiles c) :
    WithinCeilings (dropped c table tier profiles) := by
  have loaded : AccountExact profiles (c.loadTier table tier) :=
    exact.of_grants (loadTier_loadMap _ _ _) (loadTier_totalCharge _ _ _) fun j => grantAt_of_table (loadTier_table _ _ _) j
  exact within_of_nextShed (dropped_lists lists) (shedAll_accountExact loaded) (shedAll_nextShed _ _)

theorem dropped_tier3 (lists : ListsExact c) (three : tier = 3) (i : SlotIx) :
    ((dropped c table tier profiles).grantAt i).any Grant.isActive = false :=
  shedAll_of_tier3 (listsExact_of_grants lists (loadTier_waiting _ _ _) (loadTier_admission _ _ _)
    fun j => grantAt_of_table (loadTier_table _ _ _) j) three profiles i

theorem passIf_within (h : WithinCeilings c) (b : Bool) : WithinCeilings (c.passIf profiles b) :=
  passIf_induct h fun _ i hd => visit_within hd i

end

/-- What holds after a drop whatever became of the repack: `base` is the state that the abandonment, if any, left. -/
theorem drop_common {base : State} {tier : Tier} {b : Bool} (idle : base.ctl.inFlight = false) :
    let t := (base.withCtl (dropped base.ctl base.config.tiers tier base.config.profiles)).settle b
    t.ctl.tierInForce = tier ∧ CeilingsLoaded t ∧ t.ctl.inFlight = false ∧ AlertsExact t ∧ t.ctl.held = base.ctl.held ∧
      (ListsExact base.ctl → AccountExact base.config.profiles base.ctl → WithinCeilings t.ctl) ∧
      (ListsExact base.ctl → tier = 3 → ∀ i : SlotIx, (t.ctl.grantAt i).any Grant.isActive = false) := by
  intro t
  have kept : CeilingsAndRepackKept (base.ctl.loadTier base.config.tiers tier) (dropped base.ctl base.config.tiers tier
      base.config.profiles) := dropped_kept
  obtain ⟨tiers, peak, charge, repack, held, -⟩ := ceilingsKept_trans kept (passIf_ceilings b (profiles := base.config.profiles))
  have stays : t.ctl.inFlight = (base.ctl.loadTier base.config.tiers tier).inFlight := inFlight_congr repack
  have force : t.ctl.tierInForce = tier := tiers
  refine ⟨tiers, ⟨?_, ?_⟩, stays.trans idle, settle_exact _ _, held, fun lists exact => ?_, fun lists three => ?_⟩
  · rw [force]; exact peak
  · rw [force]; exact charge
  · exact passIf_within (dropped_within lists exact) b
  · have three' : (dropped base.ctl base.config.tiers tier base.config.profiles).tierInForce = 3 := kept.1.trans three
    exact passIf_of_tier3 three' (dropped_tier3 lists three) b

/-- Settles O53: the drop with and without a repack, and the sheds in their order. -/
theorem tierDropSheds : Obligations.TierDropSheds := by
  refine ⟨fun s n waits hm drops => ?_, fun profiles c => ⟨fun i g h => ?_, shedAll_of_within, ?_⟩⟩
  · intro ceilings loaded
    have load (c : Controller) : c.loadTier s.config.tiers s.supply.effective = loaded c := rfl
    refine ⟨_, (exec_tierChange waits).trans (congrArg Host.Outcome.next (takeTierChange_drop drops (running_of_mode hm))), ?_⟩
    cases flying : s.ctl.inFlight with
    | false =>
      have still : State.tierDrop { s with events := { s.events with tierChanges := n } } s.supply.effective =
          (State.withCtl { s with events := { s.events with tierChanges := n } }
            (dropped s.ctl s.config.tiers s.supply.effective s.config.profiles)).settle false := by
        have none := abandon_of_idle (s := { s with events := { s.events with tierChanges := n } }) flying
          (.noRoom .repackAbandoned)
        simp only [State.tierDrop, none, flying]
        rfl
      rw [still]
      obtain ⟨tier, ceil, idle, alerts, -, within, three⟩ := drop_common (tier := s.supply.effective) (b := false)
        (base := { s with events := { s.events with tierChanges := n } }) flying
      refine ⟨tier, ceil, idle, alerts, rfl, rfl, rfl, rfl, rfl, within, three,
        fun _ => ⟨eventKept_settle (eventKept_withCtl (eventKept_events s _) _) _, rfl,
          settle_sameButSummaries _ _, fun i => ?_⟩, fun held f => by cases f⟩
      exact shedAll_slots (c := s.ctl.loadTier s.config.tiers s.supply.effective) i
    | true =>
      have abandoned := abandon_ctl_of_inFlight (s := { s with events := { s.events with tierChanges := n } }) flying
        (.noRoom .repackAbandoned)
      generalize hb : State.abandon { s with events := { s.events with tierChanges := n } } (.noRoom .repackAbandoned) = base
        at abandoned
      have config : base.config = s.config := by rw [← hb, abandon_config]
      have still : State.tierDrop { s with events := { s.events with tierChanges := n } } s.supply.effective =
          (base.withCtl (dropped base.ctl base.config.tiers s.supply.effective base.config.profiles)).settle true := by
        simp only [State.tierDrop, hb, flying]
        rfl
      have lists (h : ListsExact s.ctl) : ListsExact base.ctl := by rw [abandoned]; exact h
      have account (h : MapExact s) : AccountExact base.config.profiles base.ctl := by rw [abandoned, config]; exact h
      have ended : base.ctl.inFlight = false := by rw [abandoned]; rfl
      rw [still]
      obtain ⟨tier, ceil, idle, alerts, noHeld, within, three⟩ := drop_common (tier := s.supply.effective) (b := true) ended
      refine ⟨tier, ceil, idle, alerts, config, ?_, ?_, ?_, ?_, fun h h' => within (lists h) (account h'),
        fun h => three (lists h), fun f => Bool.noConfusion f, fun held _ hh => ⟨?_, ?_, ?_, ?_, ?_⟩⟩
      · rw [settle_engine, withCtl_engine, ← hb, abandon_engine]
      · rw [settle_supply, withCtl_supply, ← hb, abandon_supply]
      · rw [settle_timer, withCtl_timer, ← hb, abandon_timer]
      · rw [settle_events, withCtl_events, ← hb, abandon_events]
      · have dropsPlan := abandon_dropsPlan (s := { s with events := { s.events with tierChanges := n } }) flying
          (.noRoom .repackAbandoned)
        rw [settle_planner, withCtl_planner, ← hb, dropsPlan]
      · rw [noHeld, abandoned]; rfl
      · have told : AnsweredHeld base held (.noRoom .repackAbandoned) := by
          rw [← hb]
          exact abandon_answersHeld (s := { s with events := { s.events with tierChanges := n } }) flying hh _
        exact answered_settle (answered_withCtl told _) _
      · have kept : EventKeptHeldAnswered s base held := by
          rw [← hb]
          exact eventKeptHeld_abandon (s := { s with events := { s.events with tierChanges := n } }) flying hh _
        exact eventKeptHeld_settle (eventKeptHeld_withCtl kept _) _
      · have runs : (dropped base.ctl base.config.tiers s.supply.effective base.config.profiles).passIf base.config.profiles
            true = ((loaded (withoutRepack s.ctl)).shedAll s.config.profiles).retryPass s.config.profiles := by
          have quiet : (dropped base.ctl base.config.tiers s.supply.effective base.config.profiles).inFlight = false := by
            have repack := (dropped_kept (c := base.ctl) (table := base.config.tiers) (tier := s.supply.effective)
              (profiles := base.config.profiles)).2.2.2.1
            exact (inFlight_congr repack).trans ended
          rw [passIf_of_idle quiet, ← load, dropped, config, abandoned]
        rw [← runs]
        exact settle_sameButSummaries _ _
  · simp only [Controller.shed, h]
  · obtain ⟨sheds, all, choice⟩ := shedLoop_sheds (profiles := profiles) c.admission.length c
    exact ⟨sheds, all, shedAll_nextShed c profiles, choice⟩

end Sys2Proof.Proofs
end

section
/-! SUPPORT. What the pass of an event leaves of the other slots; then RAMP_COMPLETE (O56) and the plan events (O58). -/

namespace Sys2Proof.Proofs

open Sys2Proof Sys2Proof.Machine Sys2Proof.Safety Sys2Proof.Laws

/-! ## The pass of an event and the slots -/

section
variable {c d : Controller} {profiles : Vector Profile 16} {i j : SlotIx} {g : Grant}

theorem slot_of_grantAt {generation : Fin 16} {g : Option Grant} (gen : c.table[i].generation = generation)
    (h : c.grantAt i = g) : c.table[i] = ⟨generation, g⟩ := by
  rw [← gen, ← h]; rfl

theorem passIf_generation (b : Bool) (j : SlotIx) :
    (c.passIf profiles b).table[j].generation = c.table[j].generation := by
  unfold Controller.passIf
  split
  · exact retryPass_generation profiles c j
  · rfl
theorem passIf_grantAt_of_not_waits (b : Bool) (h : (c.grantAt j).any Grant.waits = false) :
    (c.passIf profiles b).grantAt j = c.grantAt j := by
  unfold Controller.passIf
  split
  · exact retryPass_grantAt_of_not_waits profiles c j h
  · rfl
/-- A slot whose grant does not wait is left by the pass of an event. -/
theorem passIf_slot_of_not_waits (b : Bool) (h : (c.grantAt j).any Grant.waits = false) :
    (c.passIf profiles b).table[j] = c.table[j] :=
  slot_of_grantAt (passIf_generation b j) (passIf_grantAt_of_not_waits b h)

/-- Other slots kept before the pass are kept after it but for its waiting grants. -/
theorem othersKept_passIf (h : OtherSlotsKept c d i) (b : Bool) : OtherSlotsKeptButWaiting c (d.passIf profiles b) i := by
  intro j ne
  have same := h j ne
  have grant : d.grantAt j = c.grantAt j := by rw [grantAt_def, same]; rfl
  refine ⟨by rw [passIf_generation, same], fun still => ?_⟩
  rw [passIf_grantAt_of_not_waits b (by rw [grant]; exact still), grant]

/-- A grant that does not wait, in a slot. -/
theorem not_waits_of_slot {x : Slot} (slot : c.table[i] = x) (h : x.grant.any Grant.waits = false) :
    (c.grantAt i).any Grant.waits = false := by rw [grantAt_def, slot]; exact h

theorem passIf_of_not_trigger {b : Bool} (h : b = false ∨ c.inFlight = true) : c.passIf profiles b = c := by
  rcases h with rfl | flying
  · rfl
  · exact passIf_of_inFlight flying _ _

end

theorem settle_sameAs {u : State} {b : Bool} {d : Controller} (h : u.ctl.passIf u.config.profiles b = d) :
    SameButSummaries (u.settle b).ctl d := by rw [← h]; exact settle_sameButSummaries u b

/-! ## Ramp completes (R107, R108) -/

section
variable {s : State} {h duty : Nat} {i : SlotIx} {g : Grant} {start : Segment} {r : Nat}

theorem exec_rampComplete_config (raised : (⟨h, duty⟩ : RampEvent) ∈ s.events.rampCompletes) (hm : s.running = false) :
    exec (.rampComplete h duty) s =
      .next { s with events := { s.events with rampCompletes := s.events.rampCompletes.erase ⟨h, duty⟩ } } := by
  simp [exec, execRampComplete, raised, hm]
theorem exec_rampComplete_unnamed (raised : (⟨h, duty⟩ : RampEvent) ∈ s.events.rampCompletes) (none : s.ctl.lookup h = none) :
    exec (.rampComplete h duty) s =
      .next { s with events := { s.events with rampCompletes := s.events.rampCompletes.erase ⟨h, duty⟩ } } := by
  simp [exec, execRampComplete, raised, none]
theorem exec_rampComplete_ignored (raised : (⟨h, duty⟩ : RampEvent) ∈ s.events.rampCompletes)
    (named : s.ctl.lookup h = some (i, g)) (no : rampTakesEffect g duty = false) : exec (.rampComplete h duty) s =
      .next { s with events := { s.events with rampCompletes := s.events.rampCompletes.erase ⟨h, duty⟩ } } := by
  cases hm : s.running <;> simp [exec, execRampComplete, raised, hm, named, no]
theorem exec_rampComplete_taken (raised : (⟨h, duty⟩ : RampEvent) ∈ s.events.rampCompletes) (hm : s.running = true)
    (named : s.ctl.lookup h = some (i, g)) (yes : rampTakesEffect g duty = true) : exec (.rampComplete h duty) s =
      .next (State.rampDone
        { s with events := { s.events with rampCompletes := s.events.rampCompletes.erase ⟨h, duty⟩ } } i g) := by
  simp [exec, execRampComplete, raised, hm, named, yes]

/-- The record a ramp complete that takes effect leaves (R107 steps 1 and 2). -/
def rampedRecord (g : Grant) (start : Segment) (r duty : Nat) : Grant :=
  { g with state := .active start (min r (footprint duty))
           notices := { g.notices with rampDone := g.notices.rampDone || g.rampNotify } }

/-- The controller with the reservation shrunk to the footprint of the target, if it is above it (R107 step 1). -/
def rampShrunk (c : Controller) (profiles : Vector Profile 16) (i : SlotIx) (r duty : Nat) : Controller :=
  if footprint duty < r then c.resize profiles i (footprint duty) else c

theorem rampShrunk_grantAt {c : Controller} {profiles : Vector Profile 16} (hg : c.grantAt i = some g)
    (hs : g.state = .active start r) :
    (rampShrunk c profiles i r duty).grantAt i = some { g with state := .active start (min r (footprint duty)) } := by
  unfold rampShrunk
  split
  · rename_i less; rw [Nat.min_eq_right less.le]; exact resize_grantAt profiles hg hs _
  · rename_i le; rw [Nat.min_eq_left (Nat.not_lt.1 le), ← hs]; exact hg

/-- A ramp complete that takes effect: shrink, RAMP_DONE, pass (R107). -/
theorem rampDone_eq (hg : s.ctl.grantAt i = some g) (hs : g.state = .active start r) (target : g.targetDuty = duty) :
    s.rampDone i g = (s.withCtl ((rampShrunk s.ctl s.config.profiles i r duty).putGrant i (rampedRecord g start r duty))).settle
      (decide (footprint duty < r)) := by
  subst target
  have here := rampShrunk_grantAt (profiles := s.config.profiles) (duty := g.targetDuty) hg hs
  have written : (if g.rampNotify = true then (rampShrunk s.ctl s.config.profiles i r g.targetDuty).putGrant i
        { g with state := .active start (min r (footprint g.targetDuty)), notices := { g.notices with rampDone := true } }
      else rampShrunk s.ctl s.config.profiles i r g.targetDuty) =
      (rampShrunk s.ctl s.config.profiles i r g.targetDuty).putGrant i (rampedRecord g start r g.targetDuty) := by
    cases notify : g.rampNotify with
    | true => rw [if_pos rfl, rampedRecord, notify, Bool.or_true]
    | false =>
      rw [if_neg (by decide)]
      refine (putGrant_self ?_).symm
      rw [here, rampedRecord, notify, Bool.or_false]
  rw [← written]
  simp only [State.rampDone, room_of_active hs]
  change (s.withCtl (match (rampShrunk s.ctl s.config.profiles i r g.targetDuty).grantAt i with
    | some g' => if g'.rampNotify then (rampShrunk s.ctl s.config.profiles i r g.targetDuty).putGrant i
        { g' with notices := { g'.notices with rampDone := true } } else rampShrunk s.ctl s.config.profiles i r g.targetDuty
    | none => rampShrunk s.ctl s.config.profiles i r g.targetDuty)).settle _ = _
  rw [here] <;> rfl

end

/-- Settles O56: the ignored cases, and the one that takes effect with and without its pass. -/
theorem rampCompleteTaken : Obligations.RampCompleteTaken := by
  intro s h duty raised taken
  refine ⟨fun hm => exec_rampComplete_config raised (not_running_of_mode (by rw [hm]; decide)),
    exec_rampComplete_unnamed raised, fun i g named no => exec_rampComplete_ignored raised named ?_, ?_⟩
  · simp only [rampTakesEffect, Bool.and_eq_false_iff, beq_eq_false_iff_ne]
    rcases no with inactive | target | present
    · exact .inl (.inl inactive)
    · exact .inl (.inr target)
    · exact .inr present
  · rintro i g start r ⟨hm, named⟩ hs target present bound
    have hg := lookup_grantAt named
    have effect : rampTakesEffect g duty = true := by
      simp [rampTakesEffect, isActive_of_active hs, target, present]
    have done := rampDone_eq (s := taken) hg hs target
    refine ⟨_, (exec_rampComplete_taken raised (running_of_mode hm) named effect).trans (congrArg Host.Outcome.next done), ?_⟩
    have others : OtherSlotsKept s.ctl ((rampShrunk s.ctl s.config.profiles i r duty).putGrant i
        (rampedRecord g start r duty)) i := fun j ne => by
      rw [putGrant_slot_of_ne _ _ ne, rampShrunk]
      split
      · exact resize_slot_of_ne _ _ _ ne
      · rfl
    have generation : (rampShrunk s.ctl s.config.profiles i r duty).table[i].generation = s.ctl.table[i].generation := by
      unfold rampShrunk
      split
      · rw [resize_slot hg hs]
      · rfl
    have slot : ((rampShrunk s.ctl s.config.profiles i r duty).putGrant i (rampedRecord g start r duty)).table[i] =
        ⟨s.ctl.table[i].generation, some (rampedRecord g start r duty)⟩ := by
      rw [putGrant_table, table_set_same, generation]
    have kept : CeilingsAndRepackKept s.ctl ((rampShrunk s.ctl s.config.profiles i r duty).putGrant i
        (rampedRecord g start r duty)) := by
      refine ceilingsKept_trans ?_ (putGrant_kept _ _ _)
      unfold rampShrunk
      split
      · exact resize_kept _ _ _ _
      · exact ceilingsKept_refl _
    refine ⟨eventKept_settle (eventKept_withCtl (eventKept_events s _) _) _, rfl, rfl, settle_exact _ _,
      ceilingsKept_trans kept (passIf_ceilings _), ?_, othersKept_passIf others _, ?_, fun quiet => ?_⟩
    · exact (passIf_slot_of_not_waits _ (not_waits_of_slot slot rfl)).trans slot
    · refine ⟨fun le => ?_, fun less => ?_⟩
      · refine settle_sameAs ?_
        show ((rampShrunk s.ctl s.config.profiles i r duty).putGrant i (rampedRecord g start r duty)).passIf
          s.config.profiles (decide (footprint duty < r)) = _
        rw [decide_eq_false (Nat.not_lt.2 le), rampShrunk, if_neg (Nat.not_lt.2 le)]
        rfl
      · refine settle_sameAs ?_
        show ((rampShrunk s.ctl s.config.profiles i r duty).putGrant i (rampedRecord g start r duty)).passIf
          s.config.profiles (decide (footprint duty < r)) = _
        rw [decide_eq_true less, rampShrunk, if_pos less]
        rfl
    · have still : ((rampShrunk s.ctl s.config.profiles i r duty).putGrant i (rampedRecord g start r duty)).passIf
          s.config.profiles (decide (footprint duty < r)) =
          (rampShrunk s.ctl s.config.profiles i r duty).putGrant i (rampedRecord g start r duty) := by
        refine passIf_of_not_trigger ?_
        rcases quiet with le | flying
        · exact .inl (decide_eq_false (Nat.not_lt.2 le))
        · exact .inr ((inFlight_congr kept.2.2.2.1).trans flying)
      rw [settle_ctl, withCtl_ctl, withCtl_config, still]
      refine ⟨others, ?_, ?_, ?_, fun k => ?_⟩
      all_goals simp only [putGrant_admission, putGrant_waiting, putGrant_totalCharge, putGrant_loadMap, rampShrunk]
      · split
        · exact (resize_lists _ _ _ _).2
        · rfl
      · split
        · exact (resize_lists _ _ _ _).1
        · rfl
      · split
        · rename_i less; exact resize_shrink_charge hg hs less.le
        · rename_i le; rw [Nat.sub_eq_zero_of_le (Nat.not_lt.1 le), Nat.mul_zero, Nat.sub_zero]
      · split
        · rename_i less
          have mono : covers start (footprint duty) k = true → covers start r k = true := covers_mono less.le
          obtain ⟨same, -, gives⟩ := resize_load (profiles := s.config.profiles) (f := footprint duty) hg hs bound (by omega) k
          cases wide : covers start r k <;> cases narrow : covers start (footprint duty) k
          · simpa using same (by rw [wide, narrow])
          · rw [mono narrow] at wide; cases wide
          · simpa [currentOf] using gives narrow wide
          · simpa using same (by rw [wide, narrow])
        · rename_i le
          have mono : covers start r k = true → covers start (footprint duty) k = true := covers_mono (Nat.not_lt.1 le)
          cases wide : covers start r k with
          | false => simp
          | true => simp [mono wide]

/-! ## Plan events (R85 to R87) -/

section
variable {s : State} {serial : Byte}

/-- A held request answered after the end of the repack and its pass. -/
theorem eventKeptHeld_answer_settled (s : State) (c : Controller) (held : HeldRequest) (b : Bool) (r : Result)
    (pl : List Byte) : EventKeptHeldAnswered s ((((s.withCtl c).dropPlan).settle b).answerHeld held r pl) held := by
  obtain ⟨kind, client, port, rest⟩ := held
  cases port <;> exact ⟨⟨rfl, rfl, rfl, rfl, rfl, rfl, rfl, rfl, rfl, rfl, rfl⟩, rfl, rfl, rfl, rfl, rfl, rfl, rfl⟩

theorem awaits_false (h : s.ctl.repack ≠ .planning ∨ s.ctl.planSerial ≠ serial) : s.ctl.awaits serial = false := by
  simp only [Controller.awaits, Bool.and_eq_false_iff, beq_eq_false_iff_ne]; exact h
theorem awaits_true (h : s.ctl.repack = .planning) (h' : s.ctl.planSerial = serial) : s.ctl.awaits serial = true := by
  simp [Controller.awaits, h, h']

theorem exec_planComplete (raised : (⟨true, serial⟩ : PlanEvent) ∈ s.events.planEvents) :
    exec (.planComplete serial) s = if s.ctl.awaits serial then
        .next ((s.dropPlanEvent ⟨true, serial⟩).withCtl { s.ctl with repack := .applyPending })
      else .next (s.dropPlanEvent ⟨true, serial⟩) := by
  simp only [exec, execPlanComplete, List.contains_iff_mem.2 raised, if_true]
  rfl
theorem exec_planFailed_ignored (raised : (⟨false, serial⟩ : PlanEvent) ∈ s.events.planEvents)
    (no : s.ctl.awaits serial = false) : exec (.planFailed serial) s = .next (s.dropPlanEvent ⟨false, serial⟩) := by
  simp only [exec, execPlanFailed, List.contains_iff_mem.2 raised, no, if_true, Bool.false_eq_true, if_false]
theorem exec_planFailed_taken (raised : (⟨false, serial⟩ : PlanEvent) ∈ s.events.planEvents)
    (yes : s.ctl.awaits serial = true) {held : HeldRequest} (hh : s.ctl.held = some held) : exec (.planFailed serial) s =
      .next (((((s.dropPlanEvent ⟨false, serial⟩).withCtl (withoutRepack s.ctl)).dropPlan).settle true).answerHeld held
        (.noRoom .repackFailed) []) := by
  simp only [exec, execPlanFailed, List.contains_iff_mem.2 raised, yes, hh, if_true]
  rfl

end

/-- Settles O58: the event ignored, the plan ready, and the plan failed. -/
theorem planEventsTaken : Obligations.PlanEventsTaken := by
  intro s serial complete raised taken command
  cases complete with
  | true =>
    have run := exec_planComplete raised
    refine ⟨fun other => ?_, fun planning same => ⟨fun _ => ?_, fun held no => Bool.noConfusion no⟩⟩
    · rw [awaits_false other] at run; exact run
    · rw [awaits_true planning same] at run; exact run
  | false =>
    refine ⟨fun other => exec_planFailed_ignored raised (awaits_false other),
      fun planning same => ⟨fun no => Bool.noConfusion no, fun held _ hh => ?_⟩⟩
    refine ⟨_, exec_planFailed_taken raised (awaits_true planning same) hh, ?_⟩
    have pass := passIf_withoutRepack s.ctl s.config.profiles
    obtain ⟨-, -, -, repack, noHeld, -⟩ := passIf_ceilings (c := withoutRepack s.ctl) (profiles := s.config.profiles) true
    refine ⟨?_, ?_, ?_, ?_, ?_, (answerHeld_sameAlerts _ _ _ _).exact (settle_exact _ _), ?_, ?_,
      answerHeld_answered _ _ _ _, eventKeptHeld_answer_settled (s.dropPlanEvent ⟨false, serial⟩) _ held _ _ _⟩
    · rw [answerHeld_ctl]; exact repack
    · rw [answerHeld_ctl]; exact noHeld
    · rw [answerHeld_planner]; rfl
    · rw [answerHeld_ctl]
      exact settle_sameButSummaries (((s.dropPlanEvent ⟨false, serial⟩).withCtl (withoutRepack s.ctl)).dropPlan) true
    · rw [answerHeld_events]; rfl
    · rw [answerHeld_config]; rfl
    · rw [answerHeld_engine]; rfl

end Sys2Proof.Proofs
end

section
/-! SUPPORT. The requests that are answered after the end of their event, in common; then the GRANTs that create a grant: placed
(O29), waiting or refused (O30), and preempting (O32). -/

namespace Sys2Proof.Proofs

open Sys2Proof Sys2Proof.Machine Sys2Proof.Safety Sys2Proof.Laws

/-! ## A request answered at the end of its event -/

/-- The state after a request whose event left this controller, with its pass, its summaries and its answer. -/
def settledAnswer (s : State) (p : Port) (who : Client) (client code : Byte) (payload : List Byte) (c : Controller)
    (trigger : Bool) (r : Result) (bytes : List Byte) : State :=
  answer ⟨p, who, client, code⟩ r bytes (((s.markTaken p ⟨client, code, payload⟩).withCtl c).settle trigger)

section
variable (s : State) (p : Port) (who : Client) (client code : Byte) (payload : List Byte) (c : Controller) (b : Bool)
  (r : Result) (bytes : List Byte)

theorem settledAnswer_requestKept : RequestKept s (settledAnswer s p who client code payload c b r bytes) p :=
  requestKept_answer (requestKept_settle (requestKept_withCtl (requestKept_markTaken s p _) c) b) _ _ _ _ _

theorem settledAnswer_alertsExact : AlertsExact (settledAnswer s p who client code payload c b r bytes) :=
  (answer_sameAlerts _ _ _ _).exact (settle_exact _ _)

theorem settledAnswer_answered :
    Answered (settledAnswer s p who client code payload c b r bytes) p client code r bytes :=
  answer_answered ⟨p, who, client, code⟩ r bytes _

theorem settledAnswer_ctl : (settledAnswer s p who client code payload c b r bytes).ctl =
    { c.passIf s.config.profiles b with
      summaryA := (c.passIf s.config.profiles b).noticePending .a
      summaryB := (c.passIf s.config.profiles b).noticePending .b } := by
  rw [settledAnswer, answer_ctl, settle_ctl, withCtl_ctl, withCtl_config, markTaken_config]

theorem settledAnswer_table : (settledAnswer s p who client code payload c b r bytes).ctl.table =
    (c.passIf s.config.profiles b).table := by rw [settledAnswer_ctl]

theorem settledAnswer_grantAt (i : SlotIx) : (settledAnswer s p who client code payload c b r bytes).ctl.grantAt i =
    (c.passIf s.config.profiles b).grantAt i := grantAt_of_table (settledAnswer_table _ _ _ _ _ _ _ _ _ _) _

theorem settledAnswer_sameButSummaries : SameButSummaries (settledAnswer s p who client code payload c b r bytes).ctl
    (c.passIf s.config.profiles b) := by
  rw [settledAnswer_ctl]; rfl

theorem settledAnswer_lists : (settledAnswer s p who client code payload c b r bytes).ctl.waiting =
      (c.passIf s.config.profiles b).waiting ∧
    (settledAnswer s p who client code payload c b r bytes).ctl.admission = (c.passIf s.config.profiles b).admission := by
  rw [settledAnswer_ctl]; exact ⟨rfl, rfl⟩

theorem settledAnswer_account : (settledAnswer s p who client code payload c b r bytes).ctl.loadMap =
      (c.passIf s.config.profiles b).loadMap ∧
    (settledAnswer s p who client code payload c b r bytes).ctl.totalCharge =
      (c.passIf s.config.profiles b).totalCharge := by
  rw [settledAnswer_ctl]; exact ⟨rfl, rfl⟩

theorem settledAnswer_kept {c : Controller} (h : CeilingsAndRepackKept s.ctl c) :
    CeilingsAndRepackKept s.ctl (settledAnswer s p who client code payload c b r bytes).ctl := by
  rw [settledAnswer_ctl]
  exact ceilingsKept_trans h (passIf_ceilings b)

end

/-! ## The answer of a GRANT that creates a grant (R55) -/

section
variable {s : State} {p : Port} {client : Byte} {payload : List Byte} {who : Client} {a : GrantArgs} {i : SlotIx}

theorem answerCreated_settled {c : Controller} {b : Bool} {r : Result} {g : Grant}
    (here : (c.passIf s.config.profiles b).grantAt i = some g) :
    answerCreated ⟨p, who, client, 0x01⟩ r i (((s.markTaken p ⟨client, 0x01, payload⟩).withCtl c).settle b) =
      settledAnswer s p who client 0x01 payload c b r (grantPayload (c.passIf s.config.profiles b) i g) := by
  have ctl : (((s.markTaken p ⟨client, 0x01, payload⟩).withCtl c).settle b).ctl =
      { c.passIf s.config.profiles b with
        summaryA := (c.passIf s.config.profiles b).noticePending .a
        summaryB := (c.passIf s.config.profiles b).noticePending .b } := by
    rw [settle_ctl, withCtl_ctl, withCtl_config, markTaken_config]
  have found : (((s.markTaken p ⟨client, 0x01, payload⟩).withCtl c).settle b).ctl.grantAt i = some g := by
    rw [ctl]; exact here
  have told : grantPayload (((s.markTaken p ⟨client, 0x01, payload⟩).withCtl c).settle b).ctl i g =
      grantPayload (c.passIf s.config.profiles b) i g := by rw [ctl]; rfl
  unfold answerCreated
  rw [found]
  exact congrArg (fun bytes => answer ⟨p, who, client, 0x01⟩ r bytes _) told

theorem handleAt_of_generation {c d : Controller} (h : d.table[i].generation = c.table[i].generation) :
    d.handleAt i = c.table[i].generation.val * 32 + i.val := by
  rw [← h]; rfl

theorem grantPayload_active {c : Controller} {g : Grant} {start : Segment} {f : Nat} (hs : g.state = .active start f) :
    grantPayload c i g = put16 (c.handleAt i) ++ [1] ++ put8 start.val ++ put8 f ++ [0xFF, 0xFF, 0xFF] := by
  have holder : c.holderItem g = none := by simp [Controller.holderItem, Grant.isQueued, hs]
  have waiting : c.waitingItem i g = none := by simp [Controller.waitingItem, Grant.waits, hs]
  simp only [grantPayload, holder, waiting, Grant.start?, Grant.reservation?, hs, GrantState.code, put8?_some, put8?_none,
    put16?_none, List.append_assoc, List.cons_append, List.nil_append] <;> rfl

theorem grantPayload_waits {c : Controller} {g : Grant} (hw : g.waits = true) : grantPayload c i g =
    put16 (c.handleAt i) ++ put8 g.state.code ++ [0xFF, 0xFF] ++ put8? (positionIn c.waiting i) ++
      put16? (c.holderItem g) := by
  have waiting : c.waitingItem i g = positionIn c.waiting i := by simp only [Controller.waitingItem, hw, if_true]
  have blank : g.start? = none ∧ g.reservation? = none := by
    unfold Grant.waits at hw
    cases hs : g.state <;> simp_all [Grant.start?, Grant.reservation?]
  simp only [grantPayload, waiting, blank.1, blank.2, put8?_none, List.append_assoc, List.cons_append, List.nil_append]

theorem grantRecord_eq (s : State) (a : GrantArgs) (who : Client) (state : GrantState) :
    grantRecord a who s.config.profiles[a.channel] state = createdRecord s who a state := by
  unfold grantRecord createdRecord newGrant resolveRate
  cases a.rate <;> rfl

theorem exec_grant_of_noHolder (hpass : GrantPasses s p client payload who a) (hfree : s.ctl.freeSlot = some i)
    (none : NoHolder s.ctl a.channel) : exec (.grant p client payload) s =
      .next (grantFreeChannel a ⟨p, who, client, 0x01⟩ i (s.markTaken p ⟨client, 0x01, payload⟩)) := by
  have hclear := grantRefusal_of_passes hpass hfree
  obtain ⟨hserved, hrun, hread, -⟩ := hpass
  rw [exec_grant hserved]
  simp [grantEvent, State.running, hrun, hread, grantRefusal_markTaken, hclear, hfree, holder_of_noHolder none]

end

/-! ## Placed by first-fit (R63) -/

/-- Settles O29: the created grant in its slot, its run in the account, and the frame. -/
theorem grantPlacedByFirstFit : Obligations.GrantPlacedByFirstFit := by
  intro s p client payload who a i start passes lowest none below fit
  have record := grantRecord_eq s a who
  have here := createActive_grantAt s.ctl s.config.profiles a who i start
  have placed : (s.ctl.createActive s.config.profiles a who i start).table[i] = ⟨s.ctl.table[i].generation,
      some (createdRecord s who a (.active start (footprint a.duty)))⟩ :=
    (activate_slot _ _ _ _ _ _).trans (by rw [← record]; rfl)
  have run : exec (.grant p client payload) s = .next (settledAnswer s p who client 0x01 payload
      (s.ctl.createActive s.config.profiles a who i start) false .ok
      (grantPayload (s.ctl.createActive s.config.profiles a who i start) i
        (grantRecord a who s.config.profiles[a.channel] (.active start (footprint a.duty))))) := by
    rw [exec_grant_of_noHolder passes (freeSlot_of_lowestFree lowest) none]
    simp only [grantFreeChannel, markTaken_ctl, markTaken_config, Controller.atTier3, beq_iff_eq, below, if_false, fit]
    exact congrArg Host.Outcome.next (answerCreated_settled (b := false) here)
  have kept : CeilingsAndRepackKept s.ctl (s.ctl.createActive s.config.profiles a who i start) := activate_kept _ _ _ _ _ _
  have lists := settledAnswer_lists s p who client 0x01 payload
    (s.ctl.createActive s.config.profiles a who i start) false
  have account := settledAnswer_account s p who client 0x01 payload
    (s.ctl.createActive s.config.profiles a who i start) false
  refine ⟨_, run, ?_, fun j ne => ?_, ?_, ?_, fun k => ?_, ?_, settledAnswer_kept _ _ _ _ _ _ _ _ _ kept,
    settledAnswer_alertsExact _ _ _ _ _ _ _ _ _ _, settledAnswer_requestKept _ _ _ _ _ _ _ _ _ _, ?_⟩
  · rw [settledAnswer_table]; exact placed
  · rw [settledAnswer_table]; exact activate_slot_of_ne _ _ _ _ _ ne
  · rw [(lists _ _).1]; exact activate_waiting _ _ _ _ _ _
  · rw [(lists _ _).2]; exact activate_admission _ _ _ _ _ _
  · rw [(account _ _).1]; exact activate_load _ _ _ _ _ _ k
  · rw [(account _ _).2]; exact activate_totalCharge _ _ _ _ _ _
  · have handle : (s.ctl.createActive s.config.profiles a who i start).handleAt i =
        s.ctl.table[i].generation.val * 32 + i.val := handleAt_of_generation (by rw [placed])
    rw [grantPayload_active (start := start) (f := footprint a.duty) rfl, handle]
    exact settledAnswer_answered _ _ _ _ _ _ _ _ _ _

/-! ## Waiting, or refused (R57, R58, R62, R63) -/

section
variable {s : State} {p : Port} {client : Byte} {payload : List Byte} {who : Client} {a : GrantArgs} {i : SlotIx}
  {state : GrantState}

theorem createWaiting_slot_of_ne {c : Controller} {profiles : Vector Profile 16} {j : SlotIx} (ne : j ≠ i) :
    (c.createWaiting profiles a who i state).table[j] = c.table[j] := by
  rw [createWaiting_table]; exact putGrant_slot_of_ne _ _ ne

theorem createWaiting_slot (s : State) (a : GrantArgs) (who : Client) (i : SlotIx) (state : GrantState) :
    (s.ctl.createWaiting s.config.profiles a who i state).table[i] =
      ⟨s.ctl.table[i].generation, some (createdRecord s who a state)⟩ := by
  rw [createWaiting_table, grantRecord_eq, putGrant_table, table_set_same]

/-- The place of the new grant in the waiting list (R20). -/
theorem createWaiting_split (c : Controller) (profiles : Vector Profile 16) (a : GrantArgs) (who : Client) (i : SlotIx)
    (state : GrantState) : ∃ before after, c.waiting = before ++ after ∧
      (c.createWaiting profiles a who i state).waiting = before ++ i :: after ∧
      (∀ j, before.getLast? = some j → j ≠ i → a.priority ≤ c.priorityAt j) ∧
      (∀ j, j ∈ after → j ≠ i → c.priorityAt j < a.priority) := by
  have mine : (c.putGrant i (grantRecord a who profiles[a.channel] state)).priorityAt i = a.priority :=
    priorityAt_of_some (putGrant_grantAt _ _ _)
  have other : ∀ j, j ≠ i → (c.putGrant i (grantRecord a who profiles[a.channel] state)).priorityAt j = c.priorityAt j :=
    fun j ne => by simp only [Controller.priorityAt, putGrant_grantAt_of_ne _ _ ne]
  obtain ⟨before, after, list, inserted, last, rest⟩ := insertByPriority_split
    (c.putGrant i (grantRecord a who profiles[a.channel] state)).priorityAt i a.priority c.waiting
  refine ⟨before, after, list, ?_, fun j hj ne => other j ne ▸ last j hj, fun j hj ne => other j ne ▸ rest j hj⟩
  rw [Controller.createWaiting, enterWaiting_waiting, mine, putGrant_waiting, inserted]

theorem createWaiting_account (c : Controller) (profiles : Vector Profile 16) :
    AccountKept c (c.createWaiting profiles a who i state) := by
  obtain ⟨tier, peak, charge, repack, held, serial⟩ := createWaiting_kept c profiles a who i state
  refine ⟨?_, ?_, ?_, tier, peak, charge, repack, held, serial⟩ <;>
    simp only [Controller.createWaiting, enterWaiting_loadMap, enterWaiting_totalCharge, enterWaiting_admission,
      putGrant_loadMap, putGrant_totalCharge, putGrant_admission]

/-- A GRANT that creates a waiting grant: its slot, its place in the list, its answer and the frame. -/
theorem grant_created {r : Result} {code : Nat} {holder : List Byte} (waits : (createdRecord s who a state).waits = true)
    (hcode : state.code = code)
    (hholder : put16? ((s.ctl.createWaiting s.config.profiles a who i state).holderItem (createdRecord s who a state)) = holder)
    (run : exec (.grant p client payload) s = .next (answerCreated ⟨p, who, client, 0x01⟩ r i
      (((s.markTaken p ⟨client, 0x01, payload⟩).withCtl
        (s.ctl.createWaiting s.config.profiles a who i state)).settle false))) :
    ∃ t, exec (.grant p client payload) s = .next t ∧
      t.ctl.table[i] = ⟨s.ctl.table[i].generation, some (createdRecord s who a state)⟩ ∧
      OtherSlotsKept s.ctl t.ctl i ∧ AccountKept s.ctl t.ctl ∧ AlertsExact t ∧ RequestKept s t p ∧
      ∃ before after, s.ctl.waiting = before ++ after ∧ t.ctl.waiting = before ++ i :: after ∧
        (∀ j, before.getLast? = some j → j ≠ i → a.priority ≤ s.ctl.priorityAt j) ∧
        (∀ j, j ∈ after → j ≠ i → s.ctl.priorityAt j < a.priority) ∧
        (i ∉ before → Answered t p client 0x01 r
          (put16 (s.ctl.table[i].generation.val * 32 + i.val) ++ put8 code ++ [0xFF, 0xFF] ++
            put8 (before.length + 1) ++ holder)) := by
  have slot := createWaiting_slot s a who i state
  have here : (s.ctl.createWaiting s.config.profiles a who i state).grantAt i = some (createdRecord s who a state) := by
    rw [createWaiting_grantAt, grantRecord_eq]
  rw [answerCreated_settled (c := s.ctl.createWaiting s.config.profiles a who i state) (b := false) here] at run
  obtain ⟨before, after, list, inserted, last, rest⟩ := createWaiting_split s.ctl s.config.profiles a who i state
  obtain ⟨load, total, admission, kept⟩ := createWaiting_account (a := a) (who := who) (i := i) (state := state) s.ctl
    s.config.profiles
  refine ⟨_, run, ?_, fun j ne => ?_, ⟨?_, ?_, ?_, ?_⟩, settledAnswer_alertsExact _ _ _ _ _ _ _ _ _ _,
    settledAnswer_requestKept _ _ _ _ _ _ _ _ _ _, before, after, list, ?_, last, rest, fun fresh => ?_⟩
  · rw [settledAnswer_table]; exact slot
  · rw [settledAnswer_table]; exact createWaiting_slot_of_ne ne
  · rw [(settledAnswer_account _ _ _ _ _ _ _ _ _ _).1]; exact load
  · rw [(settledAnswer_account _ _ _ _ _ _ _ _ _ _).2]; exact total
  · rw [(settledAnswer_lists _ _ _ _ _ _ _ _ _ _).2]; exact admission
  · exact settledAnswer_kept _ _ _ _ _ _ _ _ _ kept
  · rw [(settledAnswer_lists _ _ _ _ _ _ _ _ _ _).1]; exact inserted
  · have told : grantPayload (s.ctl.createWaiting s.config.profiles a who i state) i (createdRecord s who a state) =
        put16 (s.ctl.table[i].generation.val * 32 + i.val) ++ put8 code ++ [0xFF, 0xFF] ++
          put8 (before.length + 1) ++ holder := by
      have handle : (s.ctl.createWaiting s.config.profiles a who i state).handleAt i =
          s.ctl.table[i].generation.val * 32 + i.val := handleAt_of_generation (by rw [slot])
      have code' : (createdRecord s who a state).state.code = code := hcode
      rw [grantPayload_waits waits, handle, hholder, inserted, positionIn_split fresh, put8?_some, code']
    rw [← told]
    exact settledAnswer_answered _ _ _ _ _ _ _ _ _ _

/-- A GRANT of a free channel that is not placed: DEFERRED with wait set, NO_ROOM with wait clear (R62, R63). -/
theorem grantWaiting_cases {t : Taken} {u : State} {refusal : NoRoom} :
    (a.wait = true → grantWaiting a t i refusal u = answerCreated t .deferred i
      ((u.withCtl (u.ctl.createWaiting u.config.profiles a t.who i .deferred)).settle false)) ∧
    (a.wait = false → grantWaiting a t i refusal u = answer t (.noRoom refusal) [] u) := by
  refine ⟨fun wait => ?_, fun wait => ?_⟩ <;> simp [grantWaiting, wait]

theorem repackAllowed_iff {s : State} {current charge : Nat} : s.repackAllowed current charge = true ↔
    s.config.mode = .run ∧ s.ctl.tierInForce ≠ 3 ∧ s.ctl.inFlight = false ∧
      s.ctl.totalCharge + charge ≤ s.ctl.chargeInForce ∧ current ≤ s.ctl.peakInForce := by
  simp [State.repackAllowed, Controller.atTier3, and_assoc]

theorem repackAllowed_markTaken (s : State) (p : Port) (r : Request) :
    (s.markTaken p r).repackAllowed = s.repackAllowed := by
  funext current charge
  simp only [State.repackAllowed, markTaken_ctl, markTaken_config]

/-- The new QUEUED grant is not a holder; the channel's holder stays. -/
theorem createWaiting_holder {c : Controller} {profiles : Vector Profile 16} {j : SlotIx} {gj : Grant}
    (free : c.grantAt i = none) (hj : c.grantAt j = some gj) (holds : gj.holds = true) (hch : gj.channel = a.channel)
    (one : ∀ k gk, c.grantAt k = some gk → gk.holds = true → gk.channel = a.channel → k = j) :
    (c.createWaiting profiles a who i .queued).holder a.channel = some j := by
  have ne : j ≠ i := fun e => by rw [e, free] at hj; cases hj
  refine holder_of_unique ((createWaiting_grantAt_of_ne _ _ _ _ _ ne).trans hj) holds hch ?_
  intro k gk hk khold kch
  by_cases e : k = i
  · subst e
    rw [createWaiting_grantAt] at hk
    cases hk
    simp [grantRecord, newGrant, Grant.holds, Grant.isActive] at khold
  · exact one k gk ((createWaiting_grantAt_of_ne _ _ _ _ _ e).symm.trans hk) khold kch

end

/-- Settles O30: without a holder at TIER3 and without room, and with a holder that is not preempted. -/
theorem grantWaitsOrIsRefused : Obligations.GrantWaitsOrIsRefused := by
  intro s p client payload who a i passes lowest refused created
  have free := freeSlot_of_lowestFree lowest
  have deferred : ∀ r run, exec (.grant p client payload) s = .next (grantWaiting a ⟨p, who, client, 0x01⟩ i run
      (s.markTaken p ⟨client, 0x01, payload⟩)) → r = Result.noRoom run →
      (a.wait = true → created .deferred .deferred 2 [0xFF, 0xFF]) ∧ (a.wait = false → refused r []) := by
    rintro r run e rfl
    refine ⟨fun wait => ?_, fun wait => ?_⟩
    · rw [grantWaiting_cases.1 wait, markTaken_ctl, markTaken_config] at e
      exact grant_created rfl rfl (by rw [holderItem_deferred rfl]; rfl) e
    · rw [grantWaiting_cases.2 wait, answer_markTaken] at e
      exact e
  refine ⟨fun none => ⟨fun three => ?_, fun below full no => ?_⟩, fun j gj hj holds hch one keeps => ?keeps⟩
  case keeps =>
    have keep : (a.preempt && decide (s.ctl.priorityAt j < a.priority)) = false := by
      rw [priorityAt_of_some hj, Bool.and_eq_false_iff, decide_eq_false_iff_not, not_lt]
      exact keeps
    refine ⟨fun wait => ?_, fun wait => ?_⟩
    · have holder := holder_of_unique hj holds hch one
      have stays : grantHeldChannel a ⟨p, who, client, 0x01⟩ i j (s.markTaken p ⟨client, 0x01, payload⟩) =
          answerCreated ⟨p, who, client, 0x01⟩ .queued i (((s.markTaken p ⟨client, 0x01, payload⟩).withCtl
            (s.ctl.createWaiting s.config.profiles a who i .queued)).settle false) := by
        simp only [grantHeldChannel, markTaken_ctl, markTaken_config, keep, Bool.false_eq_true, if_false, wait, if_true]
      have run := exec_grant_of_holder passes free holder
      rw [stays] at run
      refine grant_created rfl rfl ?_ run
      rw [holderItem_queued rfl]
      have still : (s.ctl.createWaiting s.config.profiles a who i .queued).holder a.channel = some j :=
        createWaiting_holder lowest.1 hj holds hch one
      have ne : j ≠ i := fun e => by rw [e, lowest.1] at hj; cases hj
      have handle : (s.ctl.createWaiting s.config.profiles a who i .queued).handleAt j =
          s.ctl.table[j].generation.val * 32 + j.val := handleAt_of_generation (by rw [createWaiting_slot_of_ne ne])
      show put16? (((s.ctl.createWaiting s.config.profiles a who i .queued).holder a.channel).map _) = _
      rw [still, Option.map_some, handle, put16?_some]
    · have refuses : grantHeldChannel a ⟨p, who, client, 0x01⟩ i j (s.markTaken p ⟨client, 0x01, payload⟩) =
          answer ⟨p, who, client, 0x01⟩ .channelHeld (heldPayload s.ctl j) (s.markTaken p ⟨client, 0x01, payload⟩) := by
        simp only [grantHeldChannel, markTaken_ctl, keep, Bool.false_eq_true, if_false, wait]
      have run := exec_grant_of_holder passes free (holder_of_unique hj holds hch one)
      rw [refuses, answer_markTaken, heldPayload, priorityAt_of_some hj] at run
      exact run
  · refine deferred _ .tier3 ?_ rfl
    rw [exec_grant_of_noHolder passes free none]
    simp only [grantFreeChannel, markTaken_ctl, Controller.atTier3, three, beq_self_eq_true, if_true]
  · refine deferred _ .firstFit ?_ rfl
    have notAllowed : (a.allowRepack && s.repackAllowed (currentOf s.config.profiles a.channel)
        (currentOf s.config.profiles a.channel * footprint a.duty)) = false := by
      rw [Bool.and_eq_false_iff, ← Bool.not_eq_true (s.repackAllowed _ _), repackAllowed_iff]
      simp only [currentOf]
      rcases no with no | no | no
      · exact .inl no
      · exact .inr fun ⟨_, _, _, charge, _⟩ => by omega
      · exact .inr fun ⟨_, _, _, _, peak⟩ => by omega
    rw [exec_grant_of_noHolder passes free none]
    simp only [grantFreeChannel, markTaken_ctl, markTaken_config, Controller.atTier3, beq_iff_eq, below, if_false, full, repackAllowed_markTaken,
      notAllowed, Bool.false_eq_true]

end Sys2Proof.Proofs
end

section
/-! SUPPORT. What a pass leaves where it finds no room; then the preempting GRANT (O32). -/

namespace Sys2Proof.Proofs

open Sys2Proof Sys2Proof.Machine Sys2Proof.Safety Sys2Proof.Laws

/-! ## Waiting grants that a pass cannot move -/

section
variable {c d : Controller} {profiles : Vector Profile 16} {i j : SlotIx} {g : Grant}

/-- Room is lost, not found, where the map and the charge rise under the same ceilings. -/
theorem place_none_mono {ch : Channel} {f : Nat} (load : ∀ k : Segment, c.loadMap[k] ≤ d.loadMap[k])
    (charge : c.totalCharge ≤ d.totalCharge) (kept : CeilingsAndRepackKept c d) (full : c.place profiles ch f = none) :
    d.place profiles ch f = none := by
  obtain ⟨-, peak, ceiling, -⟩ := kept
  rw [Controller.place, firstFit, List.find?_eq_none] at full ⊢
  intro start member fit
  rw [fits_iff, peak, ceiling] at fit
  obtain ⟨room, within⟩ := fit
  exact full start member (fits_iff.2 ⟨fun k hk => (Nat.add_le_add_right (load k) _).trans (room k hk), by omega⟩)

/-- A visit takes room or leaves it. -/
theorem visit_raises : (∀ k : Segment, c.loadMap[k] ≤ (c.visit profiles i).loadMap[k]) ∧
    c.totalCharge ≤ (c.visit profiles i).totalCharge := by
  rcases visit_cases profiles c i with e | ⟨g, hg, he, ⟨s, -, e⟩ | ⟨-, e⟩⟩ <;> rw [e]
  · exact ⟨fun _ => le_rfl, le_rfl⟩
  · rw [admitGrant_of_waits hg (eligible_waits he)]
    refine ⟨fun k => ?_, Nat.le_add_right _ _⟩
    simp only [Fin.getElem_fin, Vector.getElem_ofFn]
    exact Nat.le_add_right _ _
  · simp only [Controller.promote, putGrant_loadMap, putGrant_totalCharge]
    exact ⟨fun _ => le_rfl, le_rfl⟩

theorem visit_placeless {ch : Channel} {f : Nat} (full : c.placeUnlessTier3 profiles ch f = none) :
    (c.visit profiles i).placeUnlessTier3 profiles ch f = none := by
  have kept := visit_ceilings profiles c i
  rw [placeUnlessTier3_none] at full ⊢
  exact full.imp (fun three => kept.1.trans three) (place_none_mono visit_raises.1 visit_raises.2 kept)

/-- A DEFERRED grant without room before the pass is as it was after it (R76, R77). -/
theorem retryPass_keeps_placeless (hg : c.grantAt i = some g) (deferred : g.state = .deferred)
    (full : c.placeUnlessTier3 profiles g.channel g.neededFootprint = none) :
    (c.retryPass profiles).grantAt i = some g := by
  refine (retryPass_induct (motive := fun d => d.grantAt i = some g ∧
    d.placeUnlessTier3 profiles g.channel g.neededFootprint = none) ⟨hg, full⟩ fun d k ⟨now, full⟩ =>
      ⟨?_, visit_placeless full⟩).1
  by_cases ne : i = k
  · subst ne
    rw [visit_promotes now (eligible_iff.2 (.inl deferred)) full, promote_grantAt, ← deferred]
  · rw [visit_grantAt_of_ne ne, now]

/-- A QUEUED grant whose channel has a holder before the pass is as it was after it (R74). -/
theorem retryPass_keeps_queued (hg : c.grantAt i = some g) (queued : g.state = .queued) (held : ¬ NoHolder c g.channel) :
    (c.retryPass profiles).grantAt i = some g := by
  refine (retryPass_induct (motive := fun d => d.grantAt i = some g ∧ ¬ NoHolder d g.channel) ⟨hg, held⟩
    fun d k ⟨now, held⟩ => ⟨?_, visit_keeps_holder held⟩).1
  by_cases ne : i = k
  · subst ne
    rcases visit_grantAt (profiles := profiles) now with ⟨same, -⟩ | ⟨eligible, -⟩
    · exact same
    · rcases eligible_iff.1 eligible with deferred | ⟨-, alone⟩
      · rw [queued] at deferred; cases deferred
      · exact absurd alone held
  · rw [visit_grantAt_of_ne ne, now]

theorem passIf_of_idle_eq (idle : c.inFlight = false) : c.passIf profiles true = c.retryPass profiles := by
  simp [Controller.passIf, idle]

theorem preempt_eq (hg : c.grantAt i = some g) : c.preempt profiles i = ((c.detach profiles i).putGrant i
    { g with state := .queued, notices := { g.notices with preempted := true } }).enterWaiting i := by
  simp only [Controller.preempt, hg]

theorem preempt_kept (c : Controller) (profiles : Vector Profile 16) (i : SlotIx) :
    CeilingsAndRepackKept c (c.preempt profiles i) :=
  ⟨preempt_tierInForce _ _ _, preempt_peakInForce _ _ _, preempt_chargeInForce _ _ _, preempt_repack _ _ _,
    preempt_held _ _ _, preempt_planSerial _ _ _⟩

end

/-! ## A preempting GRANT (R64 to R66) -/

/-- What a preemption leaves before its pass: the new grant, a holder, in its slot; the old holder QUEUED; nothing else. -/
structure Preempted (c d : Controller) (i j : SlotIx) (g gj : Grant) : Prop where
  made : d.table[i] = ⟨c.table[i].generation, some g⟩
  queued : d.table[j] = ⟨c.table[j].generation,
    some { gj with state := .queued, notices := { gj.notices with preempted := true } }⟩
  others : ∀ k : SlotIx, k ≠ i → k ≠ j → d.table[k] = c.table[k]
  kept : CeilingsAndRepackKept c d
  holds : g.holds = true
  channel : g.channel = gj.channel

section
variable {s : State} {p : Port} {client : Byte} {payload : List Byte} {who : Client} {a : GrantArgs} {i j : SlotIx}
  {g gj : Grant} {d : Controller}

/-- The old holder is still QUEUED after the pass, and only waiting grants were moved. -/
theorem Preempted.passed (h : Preempted s.ctl d i j g gj) (idle : s.ctl.inFlight = false) :
    (d.passIf s.config.profiles true).table[j] = ⟨s.ctl.table[j].generation,
      some { gj with state := .queued, notices := { gj.notices with preempted := true } }⟩ ∧
    ∀ k : SlotIx, k ≠ i → k ≠ j → (d.passIf s.config.profiles true).table[k].generation = s.ctl.table[k].generation ∧
      ((s.ctl.grantAt k).any Grant.waits = false →
        (d.passIf s.config.profiles true).grantAt k = s.ctl.grantAt k) := by
  refine ⟨slot_of_grantAt (by rw [passIf_generation, h.queued]) ?_, fun k hi hj => ⟨?_, fun still => ?_⟩⟩
  · rw [passIf_of_idle_eq ((inFlight_congr h.kept.2.2.2.1).trans idle)]
    refine retryPass_keeps_queued (by rw [grantAt_def, h.queued]) rfl fun alone => ?_
    exact alone i g (by rw [grantAt_def, h.made]) h.holds h.channel
  · rw [passIf_generation, h.others k hi hj]
  · have same : d.grantAt k = s.ctl.grantAt k := by rw [grantAt_def, h.others k hi hj]; rfl
    rw [passIf_grantAt_of_not_waits true (by rw [same]; exact still), same]

/-- The controller of a preemption that finds a place (R65). -/
theorem preempted_active (hj : s.ctl.grantAt j = some gj) (hch : gj.channel = a.channel) (ne : i ≠ j) (start : Segment) :
    Preempted s.ctl ((s.ctl.preempt s.config.profiles j).createActive s.config.profiles a who i start) i j
      (createdRecord s who a (.active start (footprint a.duty))) gj where
  made := by
    rw [Controller.createActive, activate_slot, preempt_slot_of_ne _ _ ne, grantRecord_eq]; rfl
  queued := by rw [Controller.createActive, activate_slot_of_ne _ _ _ _ _ ne.symm, preempt_slot hj]
  others k hi hk := by rw [Controller.createActive, activate_slot_of_ne _ _ _ _ _ hi, preempt_slot_of_ne _ _ hk]
  kept := ceilingsKept_trans (preempt_kept _ _ _) (activate_kept _ _ _ _ _ _)
  holds := rfl
  channel := hch.symm

/-- The controller of a preemption without a place (R66). -/
theorem preempted_deferred (hj : s.ctl.grantAt j = some gj) (hch : gj.channel = a.channel) (ne : i ≠ j) :
    Preempted s.ctl ((s.ctl.preempt s.config.profiles j).createWaiting s.config.profiles a who i .deferred) i j
      (createdRecord s who a .deferred) gj where
  made := by
    rw [createWaiting_table, putGrant_table, table_set_same, preempt_slot_of_ne _ _ ne, grantRecord_eq]
  queued := by rw [createWaiting_slot_of_ne ne.symm, preempt_slot hj]
  others k hi hk := by rw [createWaiting_slot_of_ne hi, preempt_slot_of_ne _ _ hk]
  kept := ceilingsKept_trans (preempt_kept _ _ _) (createWaiting_kept _ _ _ _ _ _)
  holds := rfl
  channel := hch.symm

end

/-- Settles O32: with a place and without one. -/
theorem grantPreemptsHolder : Obligations.GrantPreemptsHolder := by
  intro s p client payload who a i j gj passes lowest hj holds hch one preempts outranks preempted queued
  have ne : i ≠ j := fun e => by rw [← e, lowest.1] at hj; cases hj
  have idle : s.ctl.inFlight = false := by obtain ⟨-, -, -, -, -, -, -, idle⟩ := passes; exact idle
  have joined : s.ctl.preempt s.config.profiles j = queued := preempt_eq hj
  have goes : (a.preempt && decide (s.ctl.priorityAt j < a.priority)) = true := by
    rw [priorityAt_of_some hj, preempts, decide_eq_true outranks]; rfl
  have run := exec_grant_of_holder passes (freeSlot_of_lowestFree lowest) (holder_of_unique hj holds hch one)
  simp only [grantHeldChannel, grantPreempting, markTaken_ctl, markTaken_config, goes, if_true] at run
  have frame : ∀ d g r bytes, Preempted s.ctl d i j g gj →
      exec (.grant p client payload) s = .next (settledAnswer s p who client 0x01 payload d true r bytes) →
      preempted (settledAnswer s p who client 0x01 payload d true r bytes) := by
    intro d g r bytes done e
    obtain ⟨old, others⟩ := done.passed idle
    refine ⟨e, ?_, fun k hi hk => ?_, settledAnswer_kept _ _ _ _ _ _ _ _ _ done.kept,
      settledAnswer_alertsExact _ _ _ _ _ _ _ _ _ _, settledAnswer_requestKept _ _ _ _ _ _ _ _ _ _⟩
    · rw [settledAnswer_table]; exact old
    · rw [settledAnswer_table, settledAnswer_grantAt]; exact others k hi hk
  refine ⟨fun start below fit => ?_, fun wait noRoom => ?_⟩
  · have done := preempted_active (s := s) (who := who) hj hch ne start
    have flying := (inFlight_congr done.kept.2.2.2.1).trans idle
    have still : (((s.ctl.preempt s.config.profiles j).createActive s.config.profiles a who i start).grantAt i).any
        Grant.waits = false := by rw [grantAt_def, done.made]; rfl
    have slot := (passIf_slot_of_not_waits (profiles := s.config.profiles) true still).trans done.made
    have here := (grantAt_def _ i).trans (congrArg Slot.grant slot)
    rw [preempt_placeUnlessTier3 below, fit] at run
    simp only [answerCreated_settled here] at run
    refine ⟨_, frame _ _ _ _ done run, ?_, ?_, ?_⟩
    · rw [settledAnswer_table]; exact slot
    · have pass : ((s.ctl.preempt s.config.profiles j).createActive s.config.profiles a who i start).passIf
          s.config.profiles true = (queued.activate s.config.profiles i (createdRecord s who a .deferred) start
            (footprint a.duty)).retryPass s.config.profiles := by
        rw [passIf_of_idle_eq flying, Controller.createActive, grantRecord_eq, joined]
      rw [← pass]
      exact settledAnswer_sameButSummaries _ _ _ _ _ _ _ _ _ _
    · have handle : (((s.ctl.preempt s.config.profiles j).createActive s.config.profiles a who i start).passIf
          s.config.profiles true).handleAt i = s.ctl.table[i].generation.val * 32 + i.val :=
        handleAt_of_generation (by rw [slot])
      rw [grantPayload_active (start := start) (f := footprint a.duty) rfl, handle]
      exact settledAnswer_answered _ _ _ _ _ _ _ _ _ _
  · have done := preempted_deferred (s := s) (who := who) hj hch ne
    have flying := (inFlight_congr done.kept.2.2.2.1).trans idle
    have full : (s.ctl.preempt s.config.profiles j).placeUnlessTier3 s.config.profiles a.channel (footprint a.duty) =
        none := by
      rw [placeUnlessTier3_none, preempt_place]
      exact noRoom.imp (preempt_tierInForce _ _ _).trans id
    have needed : (createdRecord s who a .deferred).neededFootprint = footprint a.duty := by
      simp [Grant.neededFootprint, createdRecord, footprint]
    have now : ((s.ctl.preempt s.config.profiles j).createWaiting s.config.profiles a who i .deferred).placeUnlessTier3
        s.config.profiles a.channel (footprint a.duty) = none := by
      obtain ⟨load, charge, -, kept⟩ := createWaiting_account (a := a) (who := who) (i := i) (state := .deferred)
        (s.ctl.preempt s.config.profiles j) s.config.profiles
      rw [placeUnlessTier3_none] at full ⊢
      exact full.imp kept.1.trans (place_none_mono (fun k => le_of_eq (by rw [load])) (le_of_eq charge.symm) kept)
    have still : (((s.ctl.preempt s.config.profiles j).createWaiting s.config.profiles a who i .deferred).passIf
        s.config.profiles true).grantAt i = some (createdRecord s who a .deferred) := by
      rw [passIf_of_idle_eq flying]
      exact retryPass_keeps_placeless (by rw [grantAt_def, done.made]) rfl (by rw [needed]; exact now)
    have slot := slot_of_grantAt ((passIf_generation (profiles := s.config.profiles) true i).trans
      (congrArg Slot.generation done.made)) still
    rw [full] at run
    simp only [wait, if_true, answerCreated_settled still] at run
    refine ⟨_, _, frame _ _ _ _ done run, ?_, ?_, settledAnswer_answered _ _ _ _ _ _ _ _ _ _, ?_⟩
    · rw [settledAnswer_table]; exact slot
    · have pass : ((s.ctl.preempt s.config.profiles j).createWaiting s.config.profiles a who i .deferred).passIf
          s.config.profiles true = ((queued.putGrant i (createdRecord s who a .deferred)).enterWaiting i).retryPass
            s.config.profiles := by
        rw [passIf_of_idle_eq flying, Controller.createWaiting, grantRecord_eq, joined]
      rw [← pass]
      exact settledAnswer_sameButSummaries _ _ _ _ _ _ _ _ _ _
    · have handle : (((s.ctl.preempt s.config.profiles j).createWaiting s.config.profiles a who i .deferred).passIf
          s.config.profiles true).handleAt i = s.ctl.table[i].generation.val * 32 + i.val :=
        handleAt_of_generation (by rw [slot])
      rw [grantPayload_waits rfl, handle]
      rfl

end Sys2Proof.Proofs
end

section
/-! SUPPORT. The requests that free a slot: RELEASE (O37) and ACK (O38). -/

namespace Sys2Proof.Proofs

open Sys2Proof Sys2Proof.Machine Sys2Proof.Safety Sys2Proof.Laws

section
variable {s : State} {p : Port} {client : Byte} {payload : List Byte} {who : Client} {h : Nat} {i : SlotIx} {g : Grant}
  {named : Notices}

theorem names_handle {c : Controller} (l : c.lookup h = some (i, g)) : c.handleAt i = h := ((lookup_some_iff _ _ _ _).1 l).2

/-- The checks of a handle passed by the owner (R16). -/
theorem withHandle_owner (hn : Names s h i g) (ho : g.owner = who) (code : Byte) (body : State → Nat → SlotIx → Grant → State) :
    withHandle (some h) ⟨p, who, client, code⟩ (fun n i g => ownerOnly ⟨p, who, client, code⟩ g
      (body (s.markTaken p ⟨client, code, payload⟩) n i g) (s.markTaken p ⟨client, code, payload⟩))
        (s.markTaken p ⟨client, code, payload⟩) = body (s.markTaken p ⟨client, code, payload⟩) h i g := by
  obtain ⟨hm, hl⟩ := hn
  rw [withHandle_named (by rw [markTaken_running, running_of_mode hm]) (by rwa [markTaken_ctl]), ownerOnly_owner ho]

theorem exec_release_owned (served : Served s p client 0x04 payload who) (read : readHandle payload = some h)
    (hn : Names s h i g) (ho : g.owner = who) : exec (.release p client payload) s =
      .next (settledAnswer s p who client 0x04 payload (s.ctl.free s.config.profiles i) g.holds .ok
        (put16 h ++ put8 g.state.code)) := by
  rw [exec_release served, releaseEvent, read, withHandle_owner hn ho 0x04 fun s' n i g =>
    answer ⟨p, who, client, 0x04⟩ .ok (put16 n ++ put8 g.state.code)
      ((s'.withCtl (s'.ctl.free s'.config.profiles i)).settle g.holds), markTaken_ctl, markTaken_config]
  rfl

theorem exec_ack_owned (served : Served s p client 0x05 payload who) (read : readAck payload = some (h, named))
    (hn : Names s h i g) (ho : g.owner = who) : exec (.ack p client payload) s =
      .next (ackGrant named h ⟨p, who, client, 0x05⟩ i g (s.markTaken p ⟨client, 0x05, payload⟩)) := by
  rw [exec_ack served, ackEvent, read, Option.map_some]
  exact congrArg Host.Outcome.next (withHandle_owner hn ho 0x05 fun s' n i g => ackGrant named n ⟨p, who, client, 0x05⟩ i g s')

theorem code_eq (g : GrantState) :
    g.code = match g with | .active _ _ => 1 | .deferred => 2 | .queued => 3 | .closed _ => 4 := by
  cases g <;> rfl

/-- What a slot freed gives up: its list place, and its room while it is ACTIVE (R11). -/
theorem free_parts (hg : s.ctl.grantAt i = some g) :
    (g.isActive = true → (s.ctl.free s.config.profiles i).admission = s.ctl.admission.erase i ∧
      (s.ctl.free s.config.profiles i).waiting = s.ctl.waiting) ∧
    (g.waits = true → (s.ctl.free s.config.profiles i).waiting = s.ctl.waiting.erase i ∧
      (s.ctl.free s.config.profiles i).admission = s.ctl.admission ∧
      (s.ctl.free s.config.profiles i).loadMap = s.ctl.loadMap ∧
      (s.ctl.free s.config.profiles i).totalCharge = s.ctl.totalCharge) ∧
    (g.isClosed = true → (s.ctl.free s.config.profiles i).waiting = s.ctl.waiting ∧
      (s.ctl.free s.config.profiles i).admission = s.ctl.admission ∧
      (s.ctl.free s.config.profiles i).loadMap = s.ctl.loadMap ∧
      (s.ctl.free s.config.profiles i).totalCharge = s.ctl.totalCharge) := by
  simp only [Controller.free, emptySlot_waiting, emptySlot_admission, emptySlot_loadMap, emptySlot_totalCharge]
  refine ⟨fun active => ?_, fun waits => ?_, fun closed => ?_⟩
  · obtain ⟨start, r, hs⟩ := isActive_iff.1 active
    exact ⟨detach_active_admission hg hs, detach_active_waiting hg hs⟩
  · simp only [detach_waits hg waits, and_self]
  · simp only [detach_closed hg closed, and_self]

end

/-- Settles O37: the slot freed, and the pass after it. -/
theorem releaseFreesSlot : Obligations.ReleaseFreesSlot := by
  intro s p client payload who h i g served read hn ho
  have hg := lookup_grantAt hn.2
  have run := exec_release_owned served read hn ho
  rw [code_eq] at run
  have slot := free_slot s.ctl s.config.profiles i
  have others : OtherSlotsKept s.ctl (s.ctl.free s.config.profiles i) i := fun j ne => free_slot_of_ne _ _ ne
  have gone : ((s.ctl.free s.config.profiles i).grantAt i).any Grant.waits = false := by rw [free_grantAt]; rfl
  have kept := free_kept s.ctl s.config.profiles i
  refine ⟨_, run, ?_, ?_, ?_, fun quiet => ?_, settledAnswer_kept _ _ _ _ _ _ _ _ _ kept,
    settledAnswer_alertsExact _ _ _ _ _ _ _ _ _ _, settledAnswer_requestKept _ _ _ _ _ _ _ _ _ _, ?_⟩
  · rw [settledAnswer_table]
    exact (passIf_slot_of_not_waits _ gone).trans slot
  · intro j ne
    rw [settledAnswer_table, settledAnswer_grantAt]
    exact othersKept_passIf others _ j ne
  · exact settledAnswer_sameButSummaries _ _ _ _ _ _ _ _ _ _
  · have still : (s.ctl.free s.config.profiles i).passIf s.config.profiles g.holds = s.ctl.free s.config.profiles i :=
      passIf_of_not_trigger (quiet.imp_right (inFlight_congr kept.2.2.2.1).trans)
    obtain ⟨waiting, admission⟩ := settledAnswer_lists s p who client 0x04 payload (s.ctl.free s.config.profiles i)
      g.holds .ok (put16 h ++ put8 (match g.state with | .active _ _ => 1 | .deferred => 2 | .queued => 3 | .closed _ => 4))
    obtain ⟨load, charge⟩ := settledAnswer_account s p who client 0x04 payload (s.ctl.free s.config.profiles i)
      g.holds .ok (put16 h ++ put8 (match g.state with | .active _ _ => 1 | .deferred => 2 | .queued => 3 | .closed _ => 4))
    obtain ⟨active, waits, -⟩ := free_parts (s := s) hg
    rw [waiting, admission, load, charge, still]
    refine ⟨fun j ne => ?_, active, waits⟩
    rw [settledAnswer_table, still]
    exact others j ne
  · exact settledAnswer_answered _ _ _ _ _ _ _ _ _ _

/-- Settles O38: the slot of a CLOSED grant freed by name, and the notices removed. -/
theorem ackRemovesNotices : Obligations.AckRemovesNotices := by
  intro s p client payload who h named i g served read hn ho code left
  have hg := lookup_grantAt hn.2
  have run := exec_ack_owned served read hn ho
  have codes : g.state.code = code := code_eq g.state
  by_cases closes : g.isClosed = true ∧ named.closed = true
  · have frees : ackGrant named h ⟨p, who, client, 0x05⟩ i g (s.markTaken p ⟨client, 0x05, payload⟩) =
        settledAnswer s p who client 0x05 payload (s.ctl.free s.config.profiles i) false .ok (put16 h ++ [1, 0, 0]) := by
      simp only [ackGrant, closes.1, closes.2, Bool.and_self, if_true, markTaken_ctl, markTaken_config]
      rw [List.append_assoc, List.append_assoc]
      rfl
    rw [frees] at run
    obtain ⟨-, -, parts⟩ := free_parts (s := s) hg
    obtain ⟨waiting, admission, load, charge⟩ := parts closes.1
    refine ⟨_, run, fun j ne => ?_, ⟨?_, ?_, ?_, settledAnswer_kept _ _ _ _ _ _ _ _ _ (free_kept _ _ _)⟩, ?_,
      settledAnswer_alertsExact _ _ _ _ _ _ _ _ _ _, settledAnswer_requestKept _ _ _ _ _ _ _ _ _ _, fun _ => ⟨?_, ?_⟩,
      fun no => absurd closes no⟩
    · rw [settledAnswer_table]; exact free_slot_of_ne _ _ ne
    · rw [(settledAnswer_account _ _ _ _ _ _ _ _ _ _).1]; exact load
    · rw [(settledAnswer_account _ _ _ _ _ _ _ _ _ _).2]; exact charge
    · rw [(settledAnswer_lists _ _ _ _ _ _ _ _ _ _).2]; exact admission
    · rw [(settledAnswer_lists _ _ _ _ _ _ _ _ _ _).1]; exact waiting
    · rw [settledAnswer_table]; exact free_slot _ _ _
    · exact settledAnswer_answered _ _ _ _ _ _ _ _ _ _
  · have keeps : ackGrant named h ⟨p, who, client, 0x05⟩ i g (s.markTaken p ⟨client, 0x05, payload⟩) =
        settledAnswer s p who client 0x05 payload (s.ctl.putGrant i { g with notices := left }) false .ok
          (put16 h ++ [0] ++ put8 code ++ put8 (noticesByte left)) := by
      have test : (g.isClosed && named.closed) = false := by
        rw [Bool.eq_false_iff, ne_eq, Bool.and_eq_true]; exact closes
      simp only [ackGrant, test, Bool.false_eq_true, if_false, markTaken_ctl, codes]
      rfl
    rw [keeps] at run
    refine ⟨_, run, fun j ne => ?_, ⟨?_, ?_, ?_, settledAnswer_kept _ _ _ _ _ _ _ _ _ (putGrant_kept _ _ _)⟩, ?_,
      settledAnswer_alertsExact _ _ _ _ _ _ _ _ _ _, settledAnswer_requestKept _ _ _ _ _ _ _ _ _ _,
      fun yes => absurd yes closes, fun _ => ⟨?_, ?_⟩⟩
    · rw [settledAnswer_table]; exact putGrant_slot_of_ne _ _ ne
    · rw [(settledAnswer_account _ _ _ _ _ _ _ _ _ _).1]; exact putGrant_loadMap _ _ _
    · rw [(settledAnswer_account _ _ _ _ _ _ _ _ _ _).2]; exact putGrant_totalCharge _ _ _
    · rw [(settledAnswer_lists _ _ _ _ _ _ _ _ _ _).2]; exact putGrant_admission _ _ _
    · rw [(settledAnswer_lists _ _ _ _ _ _ _ _ _ _).1]; exact putGrant_waiting _ _ _
    · rw [settledAnswer_table]
      show (s.ctl.putGrant i { g with notices := left }).table[i] = _
      rw [putGrant_table, table_set_same]
    · exact settledAnswer_answered _ _ _ _ _ _ _ _ _ _

end Sys2Proof.Proofs
end

section
/-! SUPPORT. The repacks that requests start, and ADJUST: a GRANT's repack (O33), an ADJUST within the reservation (O34) and beyond
it (O35). -/

namespace Sys2Proof.Proofs

open Sys2Proof Sys2Proof.Machine Sys2Proof.Safety Sys2Proof.Laws

/-! ## A request that starts a repack (R69, R80 to R84) -/

/-- What the start of a repack leaves, and what the planner makes of its input set. -/
structure RepackStarted (s t : State) (p : Port) (req : Request) (held : HeldRequest) (input : List PlanEntry) : Prop where
  ctl : t.ctl = { s.ctl with planSerial := s.ctl.planSerial + 1, repack := .planning, held := some held }
  serial : t.planner.serial = s.ctl.planSerial + 1
  peak : t.planner.peak = s.ctl.peakInForce
  charge : t.planner.charge = s.ctl.chargeInForce
  taken : t.planner.input = input
  plans : PlansAs input s.ctl.peakInForce s.ctl.chargeInForce t.planner.plan
  events : t.events = { s.events with
    planEvents := s.events.planEvents ++ [⟨t.planner.plan.isSome, s.ctl.planSerial + 1⟩] }
  state : (t.port p).state = (s.port p).state
  request : (t.port p).request = some ⟨req, .taken⟩
  response : (t.port p).response = (s.port p).response
  other : PortKept s t (otherPort p)
  preferred : t.preferred = otherPort p
  config : t.config = s.config
  timer : t.timer = s.timer
  engine : t.engine = s.engine
  supply : t.supply = s.supply
  pending : t.pending = s.pending

section
variable (s : State) (p : Port) (req : Request) (held : HeldRequest) (input : List PlanEntry)

theorem startRepack_started : RepackStarted s ((s.markTaken p req).startRepack held input) p req held input := by
  have planner : ((s.markTaken p req).startRepack held input).planner =
      takeInput (s.ctl.planSerial + 1) input s.ctl.peakInForce s.ctl.chargeInForce := by
    cases p <;> rfl
  obtain ⟨serial, taken, peak, charge, plans⟩ :=
    takeInput_outcome (s.ctl.planSerial + 1) input s.ctl.peakInForce s.ctl.chargeInForce
  rw [← planner] at serial taken peak charge plans
  constructor
  case serial => exact serial
  case taken => exact taken
  case peak => exact peak
  case charge => exact charge
  case plans => exact plans
  case other => cases p <;> exact ⟨rfl, rfl, rfl, rfl, rfl, rfl⟩
  all_goals cases p <;> rfl

end

/-- One entry for each ACTIVE grant, and these are the members of the admission list (R81, R22). -/
theorem activeInputs_length {s : State} (lists : ListsExact s.ctl) (f : SlotIx → Grant → Nat) :
    (activeInputs s f).length = s.ctl.admission.length := by
  obtain ⟨-, nodup, -, members, -⟩ := lists
  have count : (activeInputs s f).length =
      ((List.finRange 32).filter fun i => (s.ctl.grantAt i).any Grant.isActive).length := by
    rw [activeInputs, List.length_filterMap_eq_countP, List.countP_eq_length_filter]
    congr 2
    funext i
    cases s.ctl.grantAt i with
    | none => rfl
    | some g => cases act : g.isActive <;> simp [act]
  rw [count]
  refine ((List.perm_ext_iff_of_nodup ((List.nodup_finRange 32).filter _) nodup).2 fun i => ?_).length_eq
  rw [List.mem_filter, members i]
  exact and_iff_right (List.mem_finRange i)

/-- Settles O33: the repack started, and its input set. -/
theorem grantStartsRepack : Obligations.GrantStartsRepack := by
  intro s p client payload who a i passes lowest none below full allows charge peak
  have idle : s.ctl.inFlight = false := by obtain ⟨-, -, -, -, -, -, -, idle⟩ := passes; exact idle
  have mode : s.config.mode = .run := by obtain ⟨-, mode, -⟩ := passes; exact mode
  have allowed : s.repackAllowed (currentOf s.config.profiles a.channel)
      (currentOf s.config.profiles a.channel * footprint a.duty) = true :=
    repackAllowed_iff.2 ⟨mode, below, idle, charge, peak⟩
  have rate : resolveRate a.rate s.config.profiles[a.channel] = (createdRecord s who a .deferred).rampRate := by
    rw [← grantRecord_eq]; rfl
  have input : grantInput (s.markTaken p ⟨client, 0x01, payload⟩) a = activeInputs s (fun _ g => g.room) ++
      [inputEntry s.config.profiles Option.none a.channel a.priority (footprint a.duty)] := by
    rw [grantInput, markTaken_ctl, markTaken_config, activeEntries_reservations]; rfl
  have run := exec_grant_of_noHolder passes (freeSlot_of_lowestFree lowest) none
  simp only [grantFreeChannel, markTaken_ctl, markTaken_config, Controller.atTier3, beq_iff_eq, below, if_false, full,
    repackAllowed_markTaken, allows, allowed, Bool.and_self, if_true, input, heldGrant, rate] at run
  obtain h := startRepack_started s p ⟨client, 0x01, payload⟩
    { kind := .grant a.channel a.priority a.duty a.leaseLength, client := who, port := p,
      rampRate := (createdRecord s who a .deferred).rampRate, rampNotify := a.rampNotify, needed := footprint a.duty }
    (activeInputs s (fun _ g => g.room) ++
      [inputEntry s.config.profiles Option.none a.channel a.priority (footprint a.duty)])
  refine ⟨_, _, run, h.ctl, h.serial, h.peak, h.charge, rfl, ?_, ?_, fun lists => ?_, h.events, h.state, h.request,
    h.response, h.other, h.preferred, h.config, h.timer, h.engine, h.supply, h.pending⟩
  · rw [h.taken]
  · rw [h.taken]; exact h.plans
  · rw [h.taken, List.length_append, activeInputs_length lists]; rfl

/-! ## ADJUST (R102 to R106) -/

section
variable {s : State} {p : Port} {client : Byte} {payload : List Byte} {who : Client} {a : AdjustArgs} {i : SlotIx} {g : Grant}
  {start : Segment} {r : Nat}

theorem exec_adjust_owned (served : Served s p client 0x02 payload who) (read : readAdjust payload = some a)
    (hn : Names s a.handle i g) (ho : g.owner = who) (lives : g.isLiving = true) : exec (.adjust p client payload) s =
      .next (if s.config.profiles[g.channel].maxDuty < a.target then
          answer ⟨p, who, client, 0x02⟩ .overLimit [] (s.markTaken p ⟨client, 0x02, payload⟩)
        else adjustState a ⟨p, who, client, 0x02⟩ i g (s.markTaken p ⟨client, 0x02, payload⟩)) := by
  rw [exec_adjust served, adjustEvent, read, Option.map_some]
  rw [withHandle_named (by rw [markTaken_running, running_of_mode hn.1]) (by rw [markTaken_ctl]; exact hn.2),
    ownerOnly_owner ho, refuseClosed_living lives]
  simp only [markTaken_config]

/-- The record with the target, the rate and the notify of the ADJUST (R102). -/
theorem retarget_eq (a : AdjustArgs) (profile : Profile) (g : Grant) : retarget a profile g =
    { g with targetDuty := a.target
             rampRate := match a.rate with | .steps n => n | .profileDefault => profile.defaultRamp
             rampNotify := a.rampNotify } := by
  unfold retarget resolveRate
  cases a.rate <;> rfl

/-- The answer of an ADJUST, from the record in the slot (R106). -/
theorem answerAdjusted_of_grantAt {t : Taken} {u : State} (here : u.ctl.grantAt i = some g) :
    answerAdjusted t i u = answer t .ok (adjustPayload u.ctl i g) u := by
  simp only [answerAdjusted, here]

theorem adjustPayload_waits {c : Controller} (waits : g.waits = true) : adjustPayload c i g = put16 (c.handleAt i) ++
    put8 g.state.code ++ put16 g.targetDuty ++ put16 g.presentDuty ++ put8 g.rampRate ++ putBool g.rampNotify ++
    [0xFF, 0xFF] := by
  have blank : g.start? = none ∧ g.reservation? = none := by
    unfold Grant.waits at waits
    cases hs : g.state <;> simp_all [Grant.start?, Grant.reservation?]
  simp only [adjustPayload, blank.1, blank.2, put8?_none, List.append_assoc, List.cons_append, List.nil_append]

theorem adjustPayload_active {c : Controller} (hs : g.state = .active start r) : adjustPayload c i g =
    put16 (c.handleAt i) ++ [1] ++ put16 g.targetDuty ++ put16 g.presentDuty ++ put8 g.rampRate ++ putBool g.rampNotify ++
    (put8 start.val ++ put8 r) := by
  simp only [adjustPayload, Grant.start?, Grant.reservation?, hs, GrantState.code, put8?_some, List.append_assoc] <;> rfl

theorem putGrant_eq (c : Controller) (i : SlotIx) (g : Grant) :
    c.putGrant i g = { c with table := c.table.set i ⟨c.table[i].generation, some g⟩ } := rfl

/-- The state after an ADJUST answered without a pass. -/
theorem adjusted_answered {c : Controller} {g' : Grant} {bytes : List Byte} (here : c.grantAt i = some g')
    (told : adjustPayload c i g' = bytes) : answerAdjusted ⟨p, who, client, 0x02⟩ i
      ((s.markTaken p ⟨client, 0x02, payload⟩).withCtl c) =
        answer ⟨p, who, client, 0x02⟩ .ok bytes ((s.markTaken p ⟨client, 0x02, payload⟩).withCtl c) := by
  rw [answerAdjusted_of_grantAt here, withCtl_ctl, told]

theorem adjusted_requestKept (c : Controller) (bytes : List Byte) : RequestKept s (answer ⟨p, who, client, 0x02⟩ .ok bytes
    ((s.markTaken p ⟨client, 0x02, payload⟩).withCtl c)) p :=
  requestKept_answer (requestKept_withCtl (requestKept_markTaken s p _) c) _ _ _ _ _

/-- An ADJUST that gives back the room above the present duty (R102). -/
theorem adjusted_settled {c : Controller} {b : Bool} (here : (c.passIf s.config.profiles b).grantAt i = some g) :
    answerAdjusted ⟨p, who, client, 0x02⟩ i (((s.markTaken p ⟨client, 0x02, payload⟩).withCtl c).settle b) =
      settledAnswer s p who client 0x02 payload c b .ok (adjustPayload (c.passIf s.config.profiles b) i g) := by
  have ctl : (((s.markTaken p ⟨client, 0x02, payload⟩).withCtl c).settle b).ctl =
      { c.passIf s.config.profiles b with
        summaryA := (c.passIf s.config.profiles b).noticePending .a
        summaryB := (c.passIf s.config.profiles b).noticePending .b } := by
    rw [settle_ctl, withCtl_ctl, withCtl_config, markTaken_config]
  have found : (((s.markTaken p ⟨client, 0x02, payload⟩).withCtl c).settle b).ctl.grantAt i = some g := by
    rw [ctl]; exact here
  have told : adjustPayload (((s.markTaken p ⟨client, 0x02, payload⟩).withCtl c).settle b).ctl i g =
      adjustPayload (c.passIf s.config.profiles b) i g := by rw [ctl]; rfl
  rw [answerAdjusted_of_grantAt found, told]
  rfl

theorem adjustState_beyond {t : Taken} {u : State} (hs : g.state = .active start r) (less : r < footprint a.target) :
    adjustState a t i g u = adjustGrow a t i g start r u := by
  simp only [adjustState, hs, if_neg (Nat.not_le.2 less)]

/-- The four outcomes of an ADJUST that needs more room (R103, R104). -/
theorem adjustGrow_cases {t : Taken} {u : State} :
    (u.ctl.inFlight = true → adjustGrow a t i g start r u = answer t .retry [] u) ∧
    (u.ctl.inFlight = false →
      (fits u.ctl.loadMap u.ctl.totalCharge u.ctl.peakInForce u.ctl.chargeInForce (currentOf u.config.profiles g.channel)
          (segmentAfter start r) (footprint a.target - r) = true →
        adjustGrow a t i g start r u = answerAdjusted t i (u.withCtl ((u.ctl.putGrant i
          (retarget a u.config.profiles[g.channel] g)).resize u.config.profiles i (footprint a.target)))) ∧
      (fits u.ctl.loadMap u.ctl.totalCharge u.ctl.peakInForce u.ctl.chargeInForce (currentOf u.config.profiles g.channel)
          (segmentAfter start r) (footprint a.target - r) = false →
        adjustGrow a t i g start r u = if a.allowRepack && u.repackAllowed (currentOf u.config.profiles g.channel)
            (currentOf u.config.profiles g.channel * (footprint a.target - r)) then
          u.startRepack (heldAdjust a t u.config.profiles[g.channel])
            (activeEntries u.ctl u.config.profiles (some (i, footprint a.target)))
        else answer t (.noRoom .firstFit) [] u)) := by
  refine ⟨fun flying => ?_, fun idle => ⟨fun room => ?_, fun full => ?_⟩⟩
  · simp only [adjustGrow, flying, if_true]
  · simp only [adjustGrow, idle, room, Bool.false_eq_true, if_false, if_true]
  · simp only [adjustGrow, idle, full, Bool.false_eq_true, if_false]

end

/-- Settles O34: the record replaced, and the room above the present duty given back. -/
theorem adjustWithinReservation : Obligations.AdjustWithinReservation := by
  intro s p client payload who a i g served read hn ho within rate g' bytes adjusted
  have hg := lookup_grantAt hn.2
  have changed : retarget a s.config.profiles[g.channel] g = g' := retarget_eq _ _ _
  have handle : ∀ c : Controller, c.table[i].generation = s.ctl.table[i].generation → c.handleAt i = a.handle :=
    fun c same => (handleAt_of_generation same).trans (names_handle hn.2)
  have run := fun lives => exec_adjust_owned served read hn ho lives
  simp only [if_neg (Nat.not_lt.2 within)] at run
  have replaced : ∀ state place, adjustPayload (s.ctl.putGrant i g') i g' = bytes state place →
      exec (.adjust p client payload) s = .next (answerAdjusted ⟨p, who, client, 0x02⟩ i
        ((s.markTaken p ⟨client, 0x02, payload⟩).withCtl (s.ctl.putGrant i g'))) → adjusted state place := by
    intro state place told e
    rw [adjusted_answered (putGrant_grantAt _ _ _) told] at e
    exact ⟨_, e, by rw [answer_ctl, withCtl_ctl, putGrant_eq], adjusted_requestKept _ _,
      answer_answered ⟨p, who, client, 0x02⟩ _ _ _⟩
  have same : (s.ctl.putGrant i g').table[i].generation = s.ctl.table[i].generation := by
    rw [putGrant_table, table_set_same]
  refine ⟨fun hs => ?_, fun hs => ?_, fun start r hs inside => ⟨fun keeps => ?_, fun target less => ?_⟩⟩
  · refine replaced _ _ ?_ ?_
    · rw [adjustPayload_waits (g := g') (by simp [Grant.waits, g', hs]), handle _ same]
      simp only [g', hs, GrantState.code, bytes, putBool]
    · rw [run (by simp [Grant.isLiving, Grant.isClosed, hs]), adjustState]
      simp only [hs, markTaken_ctl, markTaken_config, changed]
  · refine replaced _ _ ?_ ?_
    · rw [adjustPayload_waits (g := g') (by simp [Grant.waits, g', hs]), handle _ same]
      simp only [g', hs, GrantState.code, bytes, putBool]
    · rw [run (by simp [Grant.isLiving, Grant.isClosed, hs]), adjustState]
      simp only [hs, markTaken_ctl, markTaken_config, changed]
  · have stays : ¬ (a.target = g.presentDuty ∧ footprint g.presentDuty < r) := by omega
    refine replaced _ _ ?_ ?_
    · rw [adjustPayload_active (g := g') hs, handle _ same] <;> rfl
    · rw [run (by simp [Grant.isLiving, Grant.isClosed, hs]), adjustState]
      simp only [hs, if_pos inside, adjustWithin, markTaken_ctl, markTaken_config, changed, if_neg stays]
  · have here : (s.ctl.putGrant i g').grantAt i = some g' := putGrant_grantAt _ _ _
    have slot : ((s.ctl.putGrant i g').resize s.config.profiles i (footprint g.presentDuty)).table[i] =
        ⟨s.ctl.table[i].generation, some { g' with state := .active start (footprint g.presentDuty) }⟩ := by
      rw [resize_slot here hs, same]
    have still : (((s.ctl.putGrant i g').resize s.config.profiles i (footprint g.presentDuty)).grantAt i).any
        Grant.waits = false := not_waits_of_slot slot rfl
    have after := (passIf_slot_of_not_waits (profiles := s.config.profiles) true still).trans slot
    have others : OtherSlotsKept s.ctl ((s.ctl.putGrant i g').resize s.config.profiles i (footprint g.presentDuty)) i :=
      fun j ne => by rw [resize_slot_of_ne _ _ _ ne, putGrant_slot_of_ne _ _ ne]
    have kept : CeilingsAndRepackKept s.ctl
        ((s.ctl.putGrant i g').resize s.config.profiles i (footprint g.presentDuty)) :=
      ceilingsKept_trans (putGrant_kept _ _ _) (resize_kept _ _ _ _)
    have goes := run (by simp [Grant.isLiving, Grant.isClosed, hs])
    rw [adjustState] at goes
    simp only [hs, less.le, adjustWithin, markTaken_ctl, markTaken_config, changed, target, less, and_self, if_true] at goes
    rw [adjusted_settled ((grantAt_def _ i).trans (congrArg Slot.grant after)),
      adjustPayload_active (start := start) (r := footprint g.presentDuty) rfl, handle _ (by rw [after])] at goes
    refine ⟨_, goes, ?_, ?_, fun flying j ne => ?_, settledAnswer_sameButSummaries _ _ _ _ _ _ _ _ _ _,
      settledAnswer_alertsExact _ _ _ _ _ _ _ _ _ _, settledAnswer_requestKept _ _ _ _ _ _ _ _ _ _, ?_⟩
    · rw [settledAnswer_table]; exact after
    · intro j ne
      rw [settledAnswer_table, settledAnswer_grantAt]
      exact othersKept_passIf others _ j ne
    · rw [settledAnswer_table, passIf_of_not_trigger (.inr ((inFlight_congr kept.2.2.2.1).trans flying))]
      exact others j ne
    · exact settledAnswer_answered _ _ _ _ _ _ _ _ _ _

/-- Settles O35: above the max duty, and above the reservation in each of its outcomes. -/
theorem adjustBeyondReservation : Obligations.AdjustBeyondReservation := by
  refine ⟨fun s p client payload who a i g served read hn ho lives above => ?_, ?_⟩
  · rw [exec_adjust_owned served read hn ho lives, if_pos above, answer_markTaken]
  intro s p client payload who a i g start r served read hn ho hs bound profile need rate refused tailFits within most less
  have narrow : need ≤ 64 := footprint_le_64 most
  have lives : g.isLiving = true := living_of_active (isActive_of_active hs)
  have changed : retarget a s.config.profiles[g.channel] g =
      { g with targetDuty := a.target, rampRate := rate, rampNotify := a.rampNotify } := retarget_eq _ _ _
  have resolved : resolveRate a.rate s.config.profiles[g.channel] = rate := congrArg Grant.rampRate changed
  have fit : fits s.ctl.loadMap s.ctl.totalCharge s.ctl.peakInForce s.ctl.chargeInForce
      (currentOf s.config.profiles g.channel) (segmentAfter start r) (need - r) = true ↔ tailFits := by
    simp only [fits_iff, covers_tail less.le narrow, and_imp, tailFits, currentOf, profile]
  have run := exec_adjust_owned served read hn ho lives
  rw [if_neg (Nat.not_lt.2 within), adjustState_beyond hs less] at run
  obtain ⟨busy, free⟩ := adjustGrow_cases (a := a) (i := i) (g := g) (start := start) (r := r)
    (t := ⟨p, who, client, 0x02⟩) (u := s.markTaken p ⟨client, 0x02, payload⟩)
  simp only [markTaken_ctl, markTaken_config, repackAllowed_markTaken] at busy free
  have refusedBy : adjustGrow a ⟨p, who, client, 0x02⟩ i g start r (s.markTaken p ⟨client, 0x02, payload⟩) =
      answer ⟨p, who, client, 0x02⟩ (.noRoom .firstFit) [] (s.markTaken p ⟨client, 0x02, payload⟩) →
      refused (.noRoom .firstFit) := fun e => by rw [e, answer_markTaken] at run; exact run
  refine ⟨fun flying => ?_, fun idle room => ?_, fun idle noRoom no => ?_, fun idle noRoom allows below peak charge => ?_⟩
  · rw [busy flying, answer_markTaken] at run; exact run
  · rw [(free idle).1 (fit.2 room), changed] at run
    have was : (s.ctl.putGrant i { g with targetDuty := a.target, rampRate := rate, rampNotify := a.rampNotify }).grantAt i =
        some { g with targetDuty := a.target, rampRate := rate, rampNotify := a.rampNotify } := putGrant_grantAt _ _ _
    have slot : ((s.ctl.putGrant i { g with targetDuty := a.target, rampRate := rate, rampNotify := a.rampNotify }).resize
        s.config.profiles i need).table[i] = ⟨s.ctl.table[i].generation, some { g with
          state := .active start need, targetDuty := a.target, rampRate := rate, rampNotify := a.rampNotify }⟩ := by
      rw [resize_slot was hs, putGrant_table, table_set_same]
    have handle : ((s.ctl.putGrant i { g with targetDuty := a.target, rampRate := rate, rampNotify := a.rampNotify }).resize
        s.config.profiles i need).handleAt i = a.handle :=
      (handleAt_of_generation (by rw [slot])).trans (names_handle hn.2)
    rw [adjusted_answered ((grantAt_def _ i).trans (congrArg Slot.grant slot))
      (adjustPayload_active (start := start) (r := need) rfl), handle] at run
    refine ⟨_, run, ?_, fun j ne => ?_, ?_, ?_, fun k => ?_, ?_, ?_, adjusted_requestKept _ _, ?_⟩
    all_goals try rw [answer_ctl, withCtl_ctl]
    · exact slot
    · rw [resize_slot_of_ne _ _ _ ne, putGrant_slot_of_ne _ _ ne]
    · exact (resize_lists _ _ _ _).1.trans (putGrant_waiting _ _ _)
    · exact (resize_lists _ _ _ _).2.trans (putGrant_admission _ _ _)
    · rw [resize_grow_load was hs less.le k, putGrant_loadMap]
      have tail := covers_tail (s := start) (k := k) less.le narrow
      by_cases grows : covers (segmentAfter start r) (need - r) k = true
      · obtain ⟨wide, out⟩ := tail.1 grows
        rw [if_pos grows, wide, out]; rfl
      · rw [if_neg grows, if_neg]
        rw [Bool.and_eq_true, Bool.not_eq_true']
        exact mt tail.2 grows
    · rw [resize_grow_charge was hs less.le, putGrant_totalCharge]; rfl
    · exact ceilingsKept_trans (putGrant_kept _ _ _) (resize_kept _ _ _ _)
    · exact answer_answered ⟨p, who, client, 0x02⟩ _ _ _
  · refine refusedBy ?_
    rw [(free idle).2 ((Bool.not_eq_true _).mp (mt fit.1 noRoom)), if_neg]
    rw [Bool.and_eq_true, repackAllowed_iff]
    rintro ⟨allows, -, below, -, charge, peak⟩
    have charge' : s.ctl.totalCharge + profile.current * (need - r) ≤ s.ctl.chargeInForce := charge
    have peak' : profile.current ≤ s.ctl.peakInForce := peak
    rcases no with no | no | no | no
    · rw [allows] at no; cases no
    · exact below no
    · omega
    · omega
  · have allowed : (a.allowRepack && s.repackAllowed (currentOf s.config.profiles g.channel)
        (currentOf s.config.profiles g.channel * (footprint a.target - r))) = true := by
      rw [allows, Bool.true_and]; exact repackAllowed_iff.2 ⟨hn.1, below, idle, charge, peak⟩
    rw [(free idle).2 ((Bool.not_eq_true _).mp (mt fit.1 noRoom)), if_pos allowed, heldAdjust, resolved,
      activeEntries_adjusted] at run
    have h := startRepack_started s p ⟨client, 0x02, payload⟩
      { kind := .adjust a.handle a.target, client := who, port := p, rampRate := rate, rampNotify := a.rampNotify,
        needed := need } (activeInputs s fun j gj => if j = i then need else gj.room)
    refine ⟨_, run, h.ctl, h.serial, h.peak, h.charge, ?_, ?_, h.events, h.preferred, h.pending, h.state, h.request,
      h.response, h.other, h.config, h.engine, h.supply, h.timer⟩
    · rw [h.taken]
    · rw [h.taken]; exact h.plans

end Sys2Proof.Proofs
end

section
/-! SUPPORT. Lease ticks (O55) and RENEW against them (O36). -/

namespace Sys2Proof.Proofs

open Sys2Proof Sys2Proof.Machine Sys2Proof.Safety Sys2Proof.Laws

/-! ## What an abandonment commutes with -/

section
variable {c d : Controller} {profiles : Vector Profile 16} {i j : SlotIx} {g : Grant}

theorem detach_withoutRepack : (withoutRepack c).detach profiles i = withoutRepack (c.detach profiles i) := by
  unfold Controller.detach
  rw [withoutRepack_grantAt]
  split
  · rfl
  · split <;> rfl
theorem putGrant_withoutRepack : (withoutRepack c).putGrant i g = withoutRepack (c.putGrant i g) := rfl
theorem retire_withoutRepack (r : CloseReason) :
    (withoutRepack c).retire profiles i r = withoutRepack (c.retire profiles i r) := by
  unfold Controller.retire
  rw [withoutRepack_grantAt]
  split
  · rfl
  · rw [detach_withoutRepack]; rfl
theorem leaseTickSlot_withoutRepack :
    leaseTickSlot profiles (withoutRepack c) i = withoutRepack (leaseTickSlot profiles c i) := by
  unfold leaseTickSlot
  rw [withoutRepack_grantAt]
  split
  · rfl
  · split
    · dsimp only
      split
      · rw [putGrant_withoutRepack, retire_withoutRepack]
      · rfl
    · rfl

/-- The abandonment reads of the controller the repack alone. -/
theorem abandon_withCtl {s : State} (repack : c.repack = s.ctl.repack) (held : c.held = s.ctl.held)
    (flying : s.ctl.inFlight = true) (r : Result) :
    (s.withCtl c).abandon r = (s.abandon r).withCtl (withoutRepack c) := by
  have same : (s.withCtl c).ctl.inFlight = true := (inFlight_congr repack).trans flying
  unfold State.abandon
  rw [if_pos same, if_pos flying, withCtl_ctl, held]
  cases h : s.ctl.held with
  | none => rfl
  | some q =>
    obtain ⟨kind, client, port, rest⟩ := q
    cases port <;> rfl

/-! ## The adjusted grant -/

theorem adjusting_flying (h : c.adjusting i = true) : c.inFlight = true ∧ ∃ held, c.held = some held := by
  unfold Controller.adjusting at h
  split at h
  · rename_i held hh
    refine ⟨?_, held, hh⟩
    split at h
    · exact (Bool.and_eq_true _ _ ▸ h).1
    · cases h
  · cases h

theorem adjusting_of_idle (idle : c.inFlight = false) (i : SlotIx) : c.adjusting i = false := by
  rw [Bool.eq_false_iff]
  intro h
  rw [(adjusting_flying h).1] at idle
  cases idle

theorem adjusting_unique (hi : c.adjusting i = true) (hj : c.adjusting j = true) : i = j := by
  unfold Controller.adjusting at hi hj
  split at hi
  · rename_i held hh
    rw [hh] at hj
    dsimp only at hj
    split at hi
    · rename_i handle target hk
      rw [hk] at hj
      simp only [Bool.and_eq_true, Option.any_eq_true, beq_iff_eq] at hi hj
      obtain ⟨-, x, hx, rfl⟩ := hi
      obtain ⟨-, y, hy, rfl⟩ := hj
      rw [hx] at hy
      cases hy
      rfl
    · cases hi
  · cases hi

/-- A handle names the same slots where the generations and the occupied slots are the same. -/
theorem adjusting_congr (gen : ∀ j : SlotIx, d.table[j].generation = c.table[j].generation)
    (occ : ∀ j, d.grantAt j = none ↔ c.grantAt j = none) (repack : d.repack = c.repack) (held : d.held = c.held)
    (i : SlotIx) : d.adjusting i = c.adjusting i := by
  have same : ∀ n, (d.lookup n).any (fun x => x.1 == i) = (c.lookup n).any fun x => x.1 == i := by
    intro n
    have handle : d.handleAt (handleSlot n) = c.handleAt (handleSlot n) := by simp only [handleAt_def, gen]
    unfold Controller.lookup
    rw [handle]
    have o := occ (handleSlot n)
    cases hd : d.grantAt (handleSlot n) <;> cases hc : c.grantAt (handleSlot n)
    · rfl
    · rw [hd, hc] at o; exact absurd (o.1 rfl) (by simp)
    · rw [hd, hc] at o; exact absurd (o.2 rfl) (by simp)
    · dsimp only; split <;> rfl
  simp only [Controller.adjusting, held, Controller.inFlight, repack, same]

/-! ## One slot of a lease tick (R115, R116) -/

/-- The record after the tick. -/
def tickedRecord (g : Grant) : Grant :=
  match g.isLiving, g.leaseRemaining with
  | true, some n =>
    if n ≤ 1 then { g with state := .closed .expired, leaseRemaining := some (n - 1), notices := { g.notices with closed := true } }
    else { g with leaseRemaining := some (n - 1) }
  | _, _ => g

theorem leaseTickSlot_cases (profiles : Vector Profile 16) (c : Controller) (i : SlotIx) :
    (leaseTickSlot profiles c i = c ∧ ∀ g, c.grantAt i = some g → tickedRecord g = g) ∨
    ∃ g n, c.grantAt i = some g ∧ g.isLiving = true ∧ g.leaseRemaining = some n ∧
      ((n ≤ 1 ∧ leaseTickSlot profiles c i =
          (c.putGrant i { g with leaseRemaining := some (n - 1) }).retire profiles i .expired) ∨
        (1 < n ∧ leaseTickSlot profiles c i = c.putGrant i { g with leaseRemaining := some (n - 1) })) := by
  unfold leaseTickSlot
  cases hg : c.grantAt i with
  | none => exact .inl ⟨rfl, nofun⟩
  | some g =>
    cases hl : g.isLiving with
    | false => exact .inl ⟨by simp only [hl], fun g' e => by cases e; simp only [tickedRecord, hl]⟩
    | true =>
      cases hr : g.leaseRemaining with
      | none => exact .inl ⟨by simp only [hl, hr], fun g' e => by cases e; simp only [tickedRecord, hl, hr]⟩
      | some n =>
        refine .inr ⟨g, n, rfl, hl, hr, ?_⟩
        by_cases e : n ≤ 1
        · exact .inl ⟨e, by simp only [hl, hr, if_pos e]⟩
        · exact .inr ⟨Nat.lt_of_not_le e, by simp only [hl, hr, if_neg e]⟩

theorem leaseTickSlot_grantAt : (leaseTickSlot profiles c i).grantAt i = (c.grantAt i).map tickedRecord := by
  rcases leaseTickSlot_cases profiles c i with ⟨e, same⟩ | ⟨g, n, hg, hl, hr, ⟨last, e⟩ | ⟨more, e⟩⟩ <;> rw [e]
  · cases hg : c.grantAt i with
    | none => rfl
    | some g => rw [Option.map_some, same g hg]
  · rw [retire_grantAt _ (putGrant_grantAt _ _ _), hg]
    simp only [Option.map_some, tickedRecord, hl, hr, if_pos last]
  · rw [putGrant_grantAt, hg]
    simp only [Option.map_some, tickedRecord, hl, hr, if_neg (Nat.not_le.2 more)]

theorem leaseTickSlot_grantAt_of_ne (ne : j ≠ i) : (leaseTickSlot profiles c i).grantAt j = c.grantAt j := by
  rcases leaseTickSlot_cases profiles c i with ⟨e, -⟩ | ⟨g, n, -, -, -, ⟨-, e⟩ | ⟨-, e⟩⟩ <;> rw [e]
  · rw [retire_grantAt_of_ne _ _ _ ne, putGrant_grantAt_of_ne _ _ ne]
  · rw [putGrant_grantAt_of_ne _ _ ne]

theorem leaseTickSlot_generation (j : SlotIx) :
    (leaseTickSlot profiles c i).table[j].generation = c.table[j].generation := by
  rcases leaseTickSlot_cases profiles c i with ⟨e, -⟩ | ⟨g, n, -, -, -, ⟨-, e⟩ | ⟨-, e⟩⟩ <;> rw [e]
  · rw [retire_generation, putGrant_generation]
  · rw [putGrant_generation]

theorem leaseTickSlot_kept : CeilingsAndRepackKept c (leaseTickSlot profiles c i) := by
  rcases leaseTickSlot_cases profiles c i with ⟨e, -⟩ | ⟨g, n, -, -, -, ⟨-, e⟩ | ⟨-, e⟩⟩ <;> rw [e]
  · exact ceilingsKept_refl c
  · exact ceilingsKept_trans (putGrant_kept _ _ _) (retire_kept _ _ _ _)
  · exact putGrant_kept _ _ _

theorem leaseTickSlot_adjusting (j : SlotIx) : (leaseTickSlot profiles c i).adjusting j = c.adjusting j := by
  obtain ⟨-, -, -, repack, held, -⟩ := leaseTickSlot_kept (c := c) (profiles := profiles) (i := i)
  refine adjusting_congr leaseTickSlot_generation (fun k => ?_) repack held j
  by_cases ne : k = i
  · subst ne; rw [leaseTickSlot_grantAt, Option.map_eq_none_iff]
  · rw [leaseTickSlot_grantAt_of_ne ne]

/-! ## Every slot (R115) -/

theorem leaseEnds_iff : leaseEnds c i ↔ c.expiresAtTick i = true := by
  unfold leaseEnds Controller.expiresAtTick Grant.leaseAfterTick
  cases c.grantAt i with
  | none => simp
  | some g =>
    cases hl : g.isLiving <;> cases hr : g.leaseRemaining <;> simp [hl, hr]
    omega

theorem expiresAtTick_congr (h : d.grantAt i = c.grantAt i) : d.expiresAtTick i = c.expiresAtTick i := by
  simp only [Controller.expiresAtTick, h]

theorem ticks_grantAt (l : List SlotIx) (nodup : l.Nodup) (c : Controller) (j : SlotIx) :
    (l.foldl (leaseTickSlot profiles) c).grantAt j = if j ∈ l then (c.grantAt j).map tickedRecord else c.grantAt j := by
  induction l generalizing c with
  | nil => rfl
  | cons i l ih =>
    obtain ⟨out, nodup⟩ := List.nodup_cons.1 nodup
    rw [List.foldl_cons, ih nodup]
    by_cases e : j = i
    · subst e; rw [if_neg out, if_pos List.mem_cons_self, leaseTickSlot_grantAt]
    · rw [leaseTickSlot_grantAt_of_ne e]
      simp only [List.mem_cons, e, false_or]

theorem leaseTickAll_grantAt (c : Controller) (j : SlotIx) :
    (leaseTickAll profiles c).grantAt j = (c.grantAt j).map tickedRecord := by
  rw [leaseTickAll, ticks_grantAt _ (List.nodup_finRange 32), if_pos (List.mem_finRange j)]

theorem ticks_withoutRepack (l : List SlotIx) (c : Controller) :
    l.foldl (leaseTickSlot profiles) (withoutRepack c) = withoutRepack (l.foldl (leaseTickSlot profiles) c) := by
  induction l generalizing c with
  | nil => rfl
  | cons i l ih => rw [List.foldl_cons, leaseTickSlot_withoutRepack, ih, List.foldl_cons]

theorem ticks_kept (l : List SlotIx) (c : Controller) :
    CeilingsAndRepackKept c (l.foldl (leaseTickSlot profiles) c) ∧
    (∀ j : SlotIx, (l.foldl (leaseTickSlot profiles) c).table[j].generation = c.table[j].generation) := by
  refine foldl_induct (motive := fun d => CeilingsAndRepackKept c d ∧
    ∀ j : SlotIx, d.table[j].generation = c.table[j].generation) ⟨ceilingsKept_refl c, fun _ => rfl⟩
    fun d i _ ⟨kept, gen⟩ => ⟨ceilingsKept_trans kept leaseTickSlot_kept, fun j => ?_⟩
  rw [leaseTickSlot_generation, gen]

end

/-! ## The walk of a lease tick -/

section
variable {s : State} {i : SlotIx}

/-- A tick at one slot that abandons nothing changes the controller alone. -/
theorem tickSlot_eq (h : s.ctl.adjusting i = false ∨ s.ctl.expiresAtTick i = false) :
    s.tickSlot i = s.withCtl (leaseTickSlot s.config.profiles s.ctl i) := by
  have shape : s.tickSlot i = s.withCtl (s.tickSlot i).ctl := by
    unfold State.tickSlot
    split
    · rfl
    · rename_i g hg
      split
      · rfl
      · rename_i n hn
        dsimp only
        split
        · rename_i zero
          have ends : s.ctl.expiresAtTick i = true := by
            simp only [Controller.expiresAtTick, hg, Option.any_some, hn, zero, beq_self_eq_true]
          have adj : s.ctl.adjusting i = false := h.resolve_right (by rw [ends]; decide)
          simp only [State.retireGrant, withCtl_ctl, putGrant_adjusting hg, adj, Bool.false_eq_true, if_false, withCtl_withCtl]
        · rfl
  rw [shape, tickSlot_ctl h]

/-- A tick that expires the adjusted grant abandons its repack, and then changes the controller alone (R96). -/
theorem tickSlot_abandons (h : s.ctl.adjusting i = true) (he : s.ctl.expiresAtTick i = true) :
    s.tickSlot i = (s.abandon (.noRoom .repackAbandoned)).withCtl
      (leaseTickSlot s.config.profiles (withoutRepack s.ctl) i) := by
  have shape : s.tickSlot i = (s.abandon (.noRoom .repackAbandoned)).withCtl (s.tickSlot i).ctl := by
    unfold State.tickSlot
    cases hg : s.ctl.grantAt i with
    | none => simp only [Controller.expiresAtTick, hg, Option.any_none, Bool.false_eq_true] at he
    | some g =>
      simp only [Controller.expiresAtTick, hg, Option.any_some, beq_iff_eq] at he
      have gone := abandon_withCtl (c := s.ctl.putGrant i { g with leaseRemaining := some 0 })
        (putGrant_repack _ _ _) (putGrant_held _ _ _) (adjusting_flying h).1 (.noRoom .repackAbandoned)
      simp only [he, if_true, State.retireGrant, withCtl_ctl, putGrant_adjusting hg, h, gone, withCtl_withCtl]
  rw [shape, tickSlot_ctl_of_adjusting h he]

/-- Slots of which none is an adjusted grant that expires. -/
theorem ticks_eq (l : List SlotIx) (nodup : l.Nodup) (s : State)
    (quiet : ∀ i ∈ l, s.ctl.adjusting i = false ∨ s.ctl.expiresAtTick i = false) :
    l.foldl State.tickSlot s = s.withCtl (l.foldl (leaseTickSlot s.config.profiles) s.ctl) := by
  induction l generalizing s with
  | nil => rfl
  | cons i l ih =>
    obtain ⟨out, nodup⟩ := List.nodup_cons.1 nodup
    rw [List.foldl_cons, tickSlot_eq (quiet i List.mem_cons_self), ih nodup]
    · rfl
    · intro j hj
      have ne : j ≠ i := fun e => out (e ▸ hj)
      rw [withCtl_ctl, leaseTickSlot_adjusting, expiresAtTick_congr (leaseTickSlot_grantAt_of_ne ne)]
      exact quiet j (List.mem_cons_of_mem _ hj)

/-- The walk over every slot, with the abandonment where the adjusted grant expires. -/
theorem tickWalk_eq (s : State) :
    ((∀ i, leaseEnds s.ctl i → s.ctl.adjusting i = false) →
      allSlots.foldl State.tickSlot s = s.withCtl (leaseTickAll s.config.profiles s.ctl)) ∧
    (∀ i, leaseEnds s.ctl i → s.ctl.adjusting i = true → allSlots.foldl State.tickSlot s =
      (s.abandon (.noRoom .repackAbandoned)).withCtl (leaseTickAll s.config.profiles (withoutRepack s.ctl))) := by
  refine ⟨fun quiet => ticks_eq _ (List.nodup_finRange 32) s fun i _ => ?_, fun i ends adj => ?_⟩
  · cases he : s.ctl.expiresAtTick i with
    | false => exact .inr rfl
    | true => exact .inl (quiet i (leaseEnds_iff.2 he))
  · obtain ⟨before, after, split⟩ := List.append_of_mem (List.mem_finRange i)
    have nodup := List.nodup_finRange 32
    rw [split, List.nodup_middle, List.nodup_cons, List.mem_append, not_or, List.nodup_append] at nodup
    obtain ⟨⟨notBefore, notAfter⟩, nodupBefore, nodupAfter, -⟩ := nodup
    obtain ⟨flying, -⟩ := adjusting_flying adj
    have quiet : ∀ j ∈ before, s.ctl.adjusting j = false ∨ s.ctl.expiresAtTick j = false := fun j hj =>
      .inl ((Bool.not_eq_true _).mp fun other => notBefore (adjusting_unique adj other ▸ hj))
    obtain ⟨⟨-, -, -, repack, held, -⟩, gen⟩ := ticks_kept (profiles := s.config.profiles) before s.ctl
    have reach := ticks_grantAt (profiles := s.config.profiles) before nodupBefore s.ctl
    have adj' : (before.foldl (leaseTickSlot s.config.profiles) s.ctl).adjusting i = true := by
      rw [adjusting_congr gen (fun k => ?_) repack held, adj]
      rw [reach]
      split
      · exact Option.map_eq_none_iff
      · rfl
    have ends' : (before.foldl (leaseTickSlot s.config.profiles) s.ctl).expiresAtTick i = true := by
      rw [expiresAtTick_congr (c := s.ctl) (by rw [reach, if_neg notBefore])]; exact leaseEnds_iff.1 ends
    rw [allSlots, leaseTickAll, split, List.foldl_append, List.foldl_cons, ticks_eq before nodupBefore s quiet,
      tickSlot_abandons (by exact adj') (by exact ends'), abandon_withCtl repack held flying, withCtl_withCtl,
      ticks_eq after nodupAfter]
    · rw [withCtl_withCtl, withCtl_ctl, withCtl_config, withCtl_config, abandon_config, withCtl_ctl, List.foldl_append,
        List.foldl_cons, ticks_withoutRepack]
    · intro j _
      exact .inl (adjusting_of_idle (by
        rw [withCtl_ctl, withCtl_ctl, inFlight_congr leaseTickSlot_kept.2.2.2.1, withoutRepack_inFlight]) j)

end

/-! ## The records after the tick and its pass -/

/-- What a lease tick leaves in each slot (R115, R116), its pass included. -/
def TickedSlots (c d : Controller) : Prop :=
  ∀ i : SlotIx, d.table[i].generation = c.table[i].generation ∧ (c.grantAt i = none → d.grantAt i = none) ∧
    ∀ g : Grant, c.grantAt i = some g →
      (g.isClosed = true ∨ (g.leaseRemaining = none ∧ g.isActive = true) → d.grantAt i = some g) ∧
      (g.isLiving = true → g.leaseRemaining = some 1 → d.grantAt i = some { g with
        state := .closed .expired, leaseRemaining := some 0, notices := { g.notices with closed := true } }) ∧
      ∀ m, g.isLiving = true → g.leaseRemaining = some (m + 2) →
        (g.isActive = true → d.grantAt i = some { g with leaseRemaining := some (m + 1) }) ∧
        ∃ g', d.grantAt i = some g' ∧ g'.leaseRemaining = some (m + 1) ∧ g'.isLiving = true ∧
          g'.presentDuty = g.presentDuty ∧ g'.targetDuty = g.targetDuty

section
variable {c d : Controller} {profiles : Vector Profile 16} {g : Grant}

theorem isLiving_of_closed (h : g.isClosed = true) : g.isLiving = false := by simp [Grant.isLiving, h]

theorem tickedRecord_of_closed (h : g.isClosed = true) : tickedRecord g = g := by
  simp only [tickedRecord, isLiving_of_closed h]
theorem tickedRecord_of_leaseless (h : g.leaseRemaining = none) : tickedRecord g = g := by
  cases hl : g.isLiving <;> simp only [tickedRecord, hl, h]
theorem tickedRecord_last (lives : g.isLiving = true) (h : g.leaseRemaining = some 1) : tickedRecord g =
    { g with state := .closed .expired, leaseRemaining := some 0, notices := { g.notices with closed := true } } := by
  simp only [tickedRecord, lives, h]; rfl
theorem tickedRecord_more {m : Nat} (lives : g.isLiving = true) (h : g.leaseRemaining = some (m + 2)) :
    tickedRecord g = { g with leaseRemaining := some (m + 1) } := by
  simp only [tickedRecord, lives, h]
  rw [if_neg (by omega)]
  rfl

theorem not_waits_of_closed (h : g.isClosed = true) : g.waits = false := by
  unfold Grant.isClosed at h
  cases hs : g.state <;> simp_all [Grant.waits]

/-- A pass keeps what a waiting grant is but its state and notices. -/
theorem passIf_keeps {i : SlotIx} {b : Bool} (hg : c.grantAt i = some g) (lives : g.isLiving = true) :
    ∃ g', (c.passIf profiles b).grantAt i = some g' ∧ g'.leaseRemaining = g.leaseRemaining ∧ g'.isLiving = true ∧
      g'.presentDuty = g.presentDuty ∧ g'.targetDuty = g.targetDuty := by
  unfold Controller.passIf
  split
  · rcases retryPass_passedOn (profiles := profiles) hg with e | e | ⟨start, -, e⟩
    · exact ⟨_, e, rfl, lives, rfl, rfl⟩
    · exact ⟨_, e, rfl, rfl, rfl, rfl⟩
    · exact ⟨_, e, rfl, rfl, rfl, rfl⟩
  · exact ⟨g, hg, rfl, lives, rfl, rfl⟩

theorem tickedSlots_of {t : Controller} {b : Bool} (grants : ∀ j, d.grantAt j = (c.grantAt j).map tickedRecord)
    (gen : ∀ j : SlotIx, d.table[j].generation = c.table[j].generation)
    (table : t.table = (d.passIf profiles b).table) : TickedSlots c t := by
  intro i
  have still : (d.grantAt i).any Grant.waits = false → t.grantAt i = d.grantAt i := fun h => by
    rw [grantAt_of_table table, passIf_grantAt_of_not_waits b h]
  refine ⟨by rw [table, passIf_generation, gen], fun free => ?_, fun g hg => ?_⟩
  · have none : d.grantAt i = none := by rw [grants, free]; rfl
    rw [still (by rw [none]; rfl), none]
  have now : d.grantAt i = some (tickedRecord g) := by rw [grants, hg]; rfl
  refine ⟨fun same => ?_, fun lives last => ?_, fun m lives more => ⟨fun active => ?_, ?_⟩⟩
  · have unchanged : tickedRecord g = g := same.elim tickedRecord_of_closed fun h => tickedRecord_of_leaseless h.1
    have quiet : g.waits = false := same.elim not_waits_of_closed fun h => not_waits_of_active h.2
    rw [still (by rw [now, unchanged]; exact quiet), now, unchanged]
  · rw [tickedRecord_last lives last] at now
    rw [still (by rw [now]; rfl), now]
  · rw [tickedRecord_more lives more] at now
    rw [still (by rw [now]; exact not_waits_of_active active), now]
  · rw [tickedRecord_more lives more] at now
    rw [grantAt_of_table table]
    exact passIf_keeps now lives

end

/-! ## The tick whole -/

section
variable {s : State}

theorem tickTriggers_iff : s.ctl.tickTriggers = true ↔
    ∃ i, leaseEnds s.ctl i ∧ ((s.ctl.grantAt i).any Grant.holds = true ∨ s.ctl.adjusting i = true) := by
  simp only [Controller.tickTriggers, allSlots, List.any_eq_true, Bool.and_eq_true, Bool.or_eq_true, leaseEnds_iff,
    List.mem_finRange, true_and]

theorem tickAll_quiet (quiet : ∀ i, leaseEnds s.ctl i → s.ctl.adjusting i = false) : s.tickAll =
    (s.withCtl (leaseTickAll s.config.profiles s.ctl)).settle s.ctl.tickTriggers := by
  rw [State.tickAll, (tickWalk_eq s).1 quiet]

theorem tickAll_abandons {i : SlotIx} (ends : leaseEnds s.ctl i) (adj : s.ctl.adjusting i = true) : s.tickAll =
    ((s.abandon (.noRoom .repackAbandoned)).withCtl (leaseTickAll s.config.profiles (withoutRepack s.ctl))).settle true := by
  rw [State.tickAll, (tickWalk_eq s).2 i ends adj, tickTriggers_iff.2 ⟨i, ends, .inr adj⟩]

/-- The state that has taken a lease tick raised, with n left. -/
def tickTaken (s : State) (n : Nat) : State := { s with events := { s.events with leaseTicks := n } }

theorem tickTaken_ctl (s : State) (n : Nat) : (tickTaken s n).ctl = s.ctl := rfl
theorem tickTaken_config (s : State) (n : Nat) : (tickTaken s n).config = s.config := rfl

theorem exec_leaseTick_run {n : Nat} (raised : s.events.leaseTicks = n + 1) (hm : s.config.mode = .run) :
    exec .leaseTick s = .next (tickTaken s n).tickAll := by
  simp [exec, execLeaseTick, State.takeLeaseTick, raised, running_of_mode hm, tickTaken]

theorem exec_leaseExpiry (i : SlotIx) : exec (.leaseExpiry i) s =
    if s.running && s.ctl.expiresAtTick i then exec .leaseTick s else .next s := rfl

theorem exec_leaseExpiry_of_ends {i : SlotIx} (hm : s.config.mode = .run) (ends : leaseEnds s.ctl i) :
    exec (.leaseExpiry i) s = exec .leaseTick s := by
  rw [exec_leaseExpiry, running_of_mode hm, leaseEnds_iff.1 ends]; rfl
theorem exec_leaseExpiry_of_not_ends {i : SlotIx} (no : ¬ leaseEnds s.ctl i) : exec (.leaseExpiry i) s = .next s := by
  rw [exec_leaseExpiry, (Bool.not_eq_true _).mp (mt leaseEnds_iff.2 no), Bool.and_false]; rfl

/-- The two outcomes of a tick in every slot. -/
theorem tickAll_slots (s : State) : TickedSlots s.ctl s.tickAll.ctl := by
  by_cases quiet : ∀ i, leaseEnds s.ctl i → s.ctl.adjusting i = false
  · rw [tickAll_quiet quiet]
    exact tickedSlots_of (leaseTickAll_grantAt s.ctl) (ticks_kept _ s.ctl).2
      (by rw [settle_ctl, withCtl_ctl])
  · simp only [not_forall, Bool.not_eq_false] at quiet
    obtain ⟨i, ends, adj⟩ := quiet
    rw [tickAll_abandons ends adj]
    exact tickedSlots_of (leaseTickAll_grantAt (withoutRepack s.ctl)) (ticks_kept _ (withoutRepack s.ctl)).2
      (by rw [settle_ctl, withCtl_ctl])

theorem settle_inFlight (u : State) (b : Bool) :
    (u.settle b).ctl.inFlight = (u.ctl.passIf u.config.profiles b).inFlight := rfl

/-- The blocks that the end of an event leaves alone. -/
theorem settled_blocks (u : State) (c : Controller) (b : Bool) : ((u.withCtl c).settle b).events = u.events ∧
    ((u.withCtl c).settle b).config = u.config ∧ ((u.withCtl c).settle b).engine = u.engine ∧
    ((u.withCtl c).settle b).supply = u.supply ∧ ((u.withCtl c).settle b).timer = u.timer ∧
    ((u.withCtl c).settle b).planner = u.planner := ⟨rfl, rfl, rfl, rfl, rfl, rfl⟩

theorem tickAll_frame (s : State) : s.tickAll.events = s.events ∧ s.tickAll.config = s.config ∧
    s.tickAll.engine = s.engine ∧ s.tickAll.supply = s.supply ∧ s.tickAll.timer = s.timer ∧ AlertsExact s.tickAll := by
  by_cases quiet : ∀ i, leaseEnds s.ctl i → s.ctl.adjusting i = false
  · rw [tickAll_quiet quiet]
    obtain ⟨events, config, engine, supply, timer, -⟩ :=
      settled_blocks s (leaseTickAll s.config.profiles s.ctl) s.ctl.tickTriggers
    exact ⟨events, config, engine, supply, timer, settle_exact _ _⟩
  · simp only [not_forall, Bool.not_eq_false] at quiet
    obtain ⟨i, ends, adj⟩ := quiet
    rw [tickAll_abandons ends adj]
    obtain ⟨events, config, engine, supply, timer, -⟩ := settled_blocks (s.abandon (.noRoom .repackAbandoned))
      (leaseTickAll s.config.profiles (withoutRepack s.ctl)) true
    exact ⟨events.trans (abandon_events _ _), config.trans (abandon_config _ _), engine.trans (abandon_engine _ _),
      supply.trans (abandon_supply _ _), timer.trans (abandon_timer _ _), settle_exact _ _⟩

end

/-- Settles O55: the tick ignored, its outcome with and without an abandonment, and each slot's record. -/
theorem leaseTickCountsAndExpires : Obligations.LeaseTickCountsAndExpires := by
  refine ⟨fun s none => ?_, fun s n raised => ⟨fun hm => ?_, fun hm => ?_⟩⟩
  · have idles : exec .leaseTick s = .next s := by simp [exec, execLeaseTick, State.takeLeaseTick, none]
    exact ⟨idles, fun i => by rw [exec_leaseExpiry, idles, ite_self]⟩
  · have halted : s.running = false := not_running_of_mode (by rw [hm]; decide)
    exact ⟨by simp [exec, execLeaseTick, State.takeLeaseTick, raised, halted],
      fun i => by rw [exec_leaseExpiry, halted, Bool.false_and]; rfl⟩
  · have run := exec_leaseTick_run raised hm
    have expiry : ∀ i, leaseEnds s.ctl i → exec (.leaseExpiry i) s = _ := fun i ends =>
      (exec_leaseExpiry_of_ends hm ends).trans run
    obtain ⟨events, config, engine, supply, timer, alerts⟩ := tickAll_frame (tickTaken s n)
    have quiet := tickAll_quiet (s := tickTaken s n)
    have abandons := fun i => tickAll_abandons (s := tickTaken s n) (i := i)
    have slots : TickedSlots s.ctl (tickTaken s n).tickAll.ctl := tickAll_slots (tickTaken s n)
    have triggers := tickTriggers_iff (s := s)
    have still : (∀ i, leaseEnds s.ctl i → s.ctl.adjusting i = false) →
        EventKept s (tickTaken s n).tickAll ∧ (tickTaken s n).tickAll.planner = s.planner := fun no => by
      rw [quiet no]
      exact ⟨eventKept_settle (eventKept_withCtl (eventKept_events s _) _) _, (settled_blocks _ _ _).2.2.2.2.2⟩
    refine ⟨_, run, events, config, engine, supply, timer, alerts,
      fun idle => still fun i _ => adjusting_of_idle idle i, fun i => ⟨expiry i, exec_leaseExpiry_of_not_ends⟩,
      fun no => ⟨(still no).1, (still no).2, fun noHolder => ?_, fun i ends holds => ?_⟩, fun i ends adj => ?_, fun i => ?_⟩
    · have none : s.ctl.tickTriggers = false := Bool.eq_false_iff.2 fun yes => by
        obtain ⟨i, ends, holds | adj⟩ := triggers.1 yes
        · rw [noHolder i ends] at holds; cases holds
        · rw [no i ends] at adj; cases adj
      rw [quiet no]
      refine settle_sameAs ?_
      rw [withCtl_ctl, withCtl_config, tickTaken_ctl, tickTaken_config, none, passIf_of_not_trigger (.inl rfl)]
    · rw [quiet no]
      refine settle_sameAs ?_
      rw [withCtl_ctl, withCtl_config, tickTaken_ctl, tickTaken_config, triggers.2 ⟨i, ends, .inl holds⟩]
    · rw [abandons i ends adj]
      refine settle_sameAs ?_
      rw [withCtl_ctl, withCtl_config, abandon_config, tickTaken_ctl, tickTaken_config]
      exact passIf_of_idle_eq ((inFlight_congr (ticks_kept _ _).1.2.2.2.1).trans (withoutRepack_inFlight _))
    · obtain ⟨gen, free, grant⟩ := slots i
      refine ⟨gen, free, fun g hg => ?_⟩
      obtain ⟨same, last, more⟩ := grant g hg
      refine ⟨same, fun lives one => ⟨last lives one, expiry i ⟨g, 1, hg, lives, one, le_rfl⟩⟩,
        fun m lives two => ⟨(more m lives two).1, (more m lives two).2, exec_leaseExpiry_of_not_ends ?_⟩,
        fun held lives one adj hh => ?_⟩
      · rintro ⟨g', k, hg', -, left, few⟩
        rw [hg] at hg'
        cases hg'
        rw [two] at left
        cases left
        omega
      · obtain ⟨flying, -⟩ := adjusting_flying adj
        have kept : EventKeptHeldAnswered s ((tickTaken s n).abandon (.noRoom .repackAbandoned)) held :=
          eventKeptHeld_abandon (s := tickTaken s n) flying hh _
        rw [abandons i ⟨g, 1, hg, lives, one, le_rfl⟩ adj]
        refine ⟨?_, answered_settle (answered_withCtl (abandon_answersHeld (s := tickTaken s n) flying hh _) _) _,
          eventKeptHeld_settle (eventKeptHeld_withCtl kept _) _⟩
        have idle : ∀ b, ((leaseTickAll s.config.profiles (withoutRepack s.ctl)).passIf s.config.profiles b).inFlight =
            false := fun b => (inFlight_congr (ceilingsKept_trans (ticks_kept _ _).1 (passIf_ceilings b)).2.2.2.1).trans
              (withoutRepack_inFlight _)
        rw [settle_inFlight, withCtl_ctl, withCtl_config, abandon_config, tickTaken_ctl, tickTaken_config]
        exact idle true

/-! ## RENEW (R119, R120) -/

section
variable {s v : State} {p : Port} {client : Byte} {payload : List Byte} {who : Client} {h : Nat} {i : SlotIx} {g : Grant}

theorem exec_renew_living (served : Served s p client 0x03 payload who) (read : readHandle payload = some h)
    (hn : Names s h i g) (ho : g.owner = who) (lives : g.isLiving = true) : exec (.renew p client payload) s =
      .next (answeredState (s.withCtl (s.ctl.putGrant i (renewed g))) p client 0x03 .ok (renewPayload h (renewed g))) := by
  have moved : (s.markTaken p ⟨client, 0x03, payload⟩).withCtl (s.ctl.putGrant i (renewed g)) =
      (s.withCtl (s.ctl.putGrant i (renewed g))).markTaken p ⟨client, 0x03, payload⟩ := by cases p <;> rfl
  rw [exec_renew served, renewEvent, read,
    withHandle_named (by rw [markTaken_running, running_of_mode hn.1]) (by rw [markTaken_ctl]; exact hn.2),
    ownerOnly_owner ho, refuseClosed_living lives, markTaken_ctl, moved, answer_markTaken]

theorem exec_renew_closed {reason : CloseReason} (served : Served s p client 0x03 payload who)
    (read : readHandle payload = some h) (hn : Names s h i g) (ho : g.owner = who) (closed : g.state = .closed reason) :
    exec (.renew p client payload) s = .next (answeredState s p client 0x03 (.closed reason) []) := by
  rw [exec_renew served, renewEvent, read,
    withHandle_named (by rw [markTaken_running, running_of_mode hn.1]) (by rw [markTaken_ctl]; exact hn.2),
    ownerOnly_owner ho, refuseClosed_closed closed, answer_markTaken]

/-- A request still waits for the arbiter after an event of the grant controller. -/
theorem served_of_eventKept {code : Byte} (served : Served s p client code payload who) (kept : EventKept s v) :
    Served v p client code payload who := by
  obtain ⟨takes, rest⟩ := served
  obtain ⟨reset, -, -, -, -, -, preferred, -, ⟨-, requestA, -⟩, ⟨-, requestB, -⟩⟩ := kept
  have request : ∀ q, (v.port q).request = (s.port q).request := fun q => by cases q <;> assumption
  refine ⟨?_, rest⟩
  rw [takes_iff] at takes ⊢
  rw [reset, preferred, request, PortUnit.requestWaits, request]
  exact takes

theorem names_of_kept {g' : Grant} (hn : Names s h i g) (config : v.config = s.config)
    (gen : v.ctl.table[i].generation = s.ctl.table[i].generation) (now : v.ctl.grantAt i = some g') : Names v h i g' := by
  obtain ⟨hm, hl⟩ := hn
  refine ⟨by rw [config, hm], ?_⟩
  rw [lookup_some_iff] at hl ⊢
  obtain ⟨-, handle⟩ := hl
  exact ⟨now, by rw [← handle, handleAt_def, handleAt_def, gen]⟩

theorem answeredState_ctl (s : State) (p : Port) (client code : Byte) (r : Result) (pl : List Byte) :
    (answeredState s p client code r pl).ctl = s.ctl := by cases p <;> rfl
theorem answeredState_events (s : State) (p : Port) (client code : Byte) (r : Result) (pl : List Byte) :
    (answeredState s p client code r pl).events = s.events := by cases p <;> rfl
theorem answeredState_config (s : State) (p : Port) (client code : Byte) (r : Result) (pl : List Byte) :
    (answeredState s p client code r pl).config = s.config := by cases p <;> rfl

end

/-- Settles O36: the lease restarted, and the two orders of a RENEW and the tick. -/
theorem renewRestartsLease : Obligations.RenewRestartsLease := by
  intro s p client payload who h i g served read hn ho lives code
  have hg := lookup_grantAt hn.2
  have run := exec_renew_living served read hn ho lives
  have codes : g.state.code = code := code_eq g.state
  have restarted : ∀ n, g.leaseLength = n + 1 → renewed g = { g with leaseRemaining := some (n + 1) } := fun n e => by
    rw [renewed, if_neg (by omega), e]
  have told : ∀ n, g.leaseLength = n + 1 → renewPayload h { g with leaseRemaining := some (n + 1) } =
      put16 h ++ put8 code ++ put8 (n + 1) ++ put8 (n + 1) := fun n e => by
    simp only [renewPayload, codes, e, put8?_some]
  refine ⟨fun none unset => ?_, fun n e => ?_, fun n m k e left raised idle => ⟨?_, ?_⟩⟩
  · have same : renewed g = g := by rw [renewed, if_pos none]
    rw [same, putGrant_self hg, withCtl_self, renewPayload, codes, none, unset] at run
    rw [run, List.append_assoc (put16 h ++ put8 code)]
    rfl
  · rw [restarted n e, told n e] at run
    exact run
  · rw [restarted n e, told n e] at run
    obtain ⟨t, ht⟩ : ∃ t, t = answeredState (s.withCtl (s.ctl.putGrant i { g with leaseRemaining := some (n + 1) })) p client
      0x03 .ok (put16 h ++ put8 code ++ put8 (n + 1) ++ put8 (n + 1)) := ⟨_, rfl⟩
    have now : t.ctl.grantAt i = some { g with leaseRemaining := some (n + 1) } := by
      rw [ht, answeredState_ctl, withCtl_ctl, putGrant_grantAt]
    have ticks := exec_leaseTick_run (s := t) (n := k) (by rw [ht, answeredState_events, withCtl_events, raised])
      (by rw [ht, answeredState_config, withCtl_config, hn.1])
    obtain ⟨-, -, grant⟩ := tickAll_slots (tickTaken t k) i
    rw [tickTaken_ctl] at grant
    obtain ⟨-, last, more⟩ := grant _ now
    rw [← ht] at run
    cases n with
    | zero =>
      exact ⟨t, _, _, run, ticks, last lives rfl, rfl, by simp [Grant.isLiving, Grant.isClosed], fun _ => rfl⟩
    | succ m =>
      obtain ⟨-, g', hg', lease, living, -⟩ := more m lives rfl
      exact ⟨t, _, g', run, ticks, hg', lease, by simp [living], fun no => absurd no (Nat.succ_ne_zero m)⟩
  · have ticks := exec_leaseTick_run raised hn.1
    have quiet : ∀ i, leaseEnds s.ctl i → s.ctl.adjusting i = false := fun i _ => adjusting_of_idle idle i
    have kept : EventKept s (tickTaken s k).tickAll := by
      rw [tickAll_quiet (s := tickTaken s k) quiet]
      exact eventKept_settle (eventKept_withCtl (eventKept_events s _) _) _
    obtain ⟨v, hv⟩ : ∃ v, v = (tickTaken s k).tickAll := ⟨_, rfl⟩
    obtain ⟨gen, -, grant⟩ := tickAll_slots (tickTaken s k) i
    rw [tickTaken_ctl, ← hv] at gen grant
    rw [← hv] at ticks kept
    obtain ⟨-, last, more⟩ := grant g hg
    cases m with
    | zero =>
      have closed := last lives left
      refine ⟨v, _, ticks, closed, rfl, fun _ => ⟨rfl, ?_⟩⟩
      have config : v.config = s.config := by obtain ⟨-, config, -⟩ := kept; exact config
      exact exec_renew_closed (served_of_eventKept served kept) read (names_of_kept hn config gen closed) ho rfl
    | succ m =>
      obtain ⟨-, g', hg', lease, -⟩ := more m lives left
      exact ⟨v, g', ticks, hg', lease, fun no => absurd no (Nat.succ_ne_zero m)⟩

end Sys2Proof.Proofs
end

section
/-! SUPPORT. The requests that can abandon the other port's repack: REVOKE (O39) and DROP_CLIENT (O40). -/

namespace Sys2Proof.Proofs

open Sys2Proof Sys2Proof.Machine Sys2Proof.Safety Sys2Proof.Laws

/-! ## A request that abandons a repack and is answered at the end of its event -/

/-- The state after a request that abandoned the repack of the other port, with its pass, its summaries and its answer. -/
def abandonedAnswer (s : State) (p : Port) (who : Client) (client code : Byte) (payload : List Byte) (c : Controller)
    (r : Result) (bytes : List Byte) : State :=
  answer ⟨p, who, client, code⟩ r bytes
    ((((s.markTaken p ⟨client, code, payload⟩).abandon (.noRoom .repackAbandoned)).withCtl c).settle true)

section
variable (s : State) (p : Port) (who : Client) (client code : Byte) (payload : List Byte) (c : Controller) (r : Result)
  (bytes : List Byte) {held : HeldRequest}

theorem abandonedAnswer_requestKept (flying : s.ctl.inFlight = true) (hh : s.ctl.held = some held) (ne : held.port ≠ p) :
    RequestKeptHeldAnswered s (abandonedAnswer s p who client code payload c r bytes) p held :=
  requestKeptHeld_answer (requestKeptHeld_settle (requestKeptHeld_withCtl
    (requestKeptHeld_abandon flying hh ne _ _) c) true) _ _ _ _ _

theorem abandonedAnswer_answersHeld (flying : s.ctl.inFlight = true) (hh : s.ctl.held = some held) (ne : held.port ≠ p) :
    AnsweredHeld (abandonedAnswer s p who client code payload c r bytes) held (.noRoom .repackAbandoned) := by
  have told := abandon_answersHeld (s := s.markTaken p ⟨client, code, payload⟩) (held := held) (by rwa [markTaken_ctl])
    (by rwa [markTaken_ctl]) (.noRoom .repackAbandoned)
  exact answered_answer ne (answered_settle (answered_withCtl told c) true)

theorem abandonedAnswer_alertsExact : AlertsExact (abandonedAnswer s p who client code payload c r bytes) :=
  (answer_sameAlerts _ _ _ _).exact (settle_exact _ _)

theorem abandonedAnswer_answered :
    Answered (abandonedAnswer s p who client code payload c r bytes) p client code r bytes :=
  answer_answered ⟨p, who, client, code⟩ r bytes _

theorem abandonedAnswer_ctl : (abandonedAnswer s p who client code payload c r bytes).ctl =
    { c.passIf s.config.profiles true with
      summaryA := (c.passIf s.config.profiles true).noticePending .a
      summaryB := (c.passIf s.config.profiles true).noticePending .b } := by
  rw [abandonedAnswer, answer_ctl, settle_ctl, withCtl_ctl, withCtl_config, abandon_config, markTaken_config]

theorem abandonedAnswer_table : (abandonedAnswer s p who client code payload c r bytes).ctl.table =
    (c.passIf s.config.profiles true).table := by rw [abandonedAnswer_ctl]

/-- No repack is left, and the plan is dropped. -/
theorem abandonedAnswer_repack {c : Controller} (flying : s.ctl.inFlight = true)
    (kept : CeilingsAndRepackKept (withoutRepack s.ctl) c) :
    (abandonedAnswer s p who client code payload c r bytes).ctl.repack = .idle ∧
    (abandonedAnswer s p who client code payload c r bytes).ctl.held = none ∧
    (abandonedAnswer s p who client code payload c r bytes).planner.plan = none := by
  obtain ⟨-, -, -, repack, noHeld, -⟩ := ceilingsKept_trans kept (passIf_ceilings (profiles := s.config.profiles) true)
  have dropped := abandon_dropsPlan (s := s.markTaken p ⟨client, code, payload⟩) (by rwa [markTaken_ctl])
    (.noRoom .repackAbandoned)
  refine ⟨by rw [abandonedAnswer_ctl]; exact repack, by rw [abandonedAnswer_ctl]; exact noHeld, ?_⟩
  rw [abandonedAnswer, answer_planner, (settled_blocks _ _ _).2.2.2.2.2, dropped]

/-- The pass runs, as no repack is in flight any more (R71, R72). -/
theorem abandonedAnswer_sameButSummaries {c : Controller} (kept : CeilingsAndRepackKept (withoutRepack s.ctl) c) :
    SameButSummaries (abandonedAnswer s p who client code payload c r bytes).ctl (c.retryPass s.config.profiles) := by
  have idle : c.inFlight = false := (inFlight_congr kept.2.2.2.1).trans (withoutRepack_inFlight _)
  rw [abandonedAnswer_ctl, passIf_of_idle_eq idle]
  rfl

end

/-! ## REVOKE (R125) -/

section
variable {s : State} {p : Port} {client : Byte} {payload : List Byte} {who : Client} {h : Nat} {i : SlotIx} {g : Grant}

theorem exec_revoke_named (served : Served s p client 0x06 payload who) (read : readHandle payload = some h)
    (hn : Names s h i g) :
    (∀ reason, g.state = .closed reason → exec (.revoke p client payload) s =
      .next (answeredState s p client 0x06 .ok (revokePayload h reason))) ∧
    (g.isLiving = true → exec (.revoke p client payload) s =
      .next (answer ⟨p, who, client, 0x06⟩ .ok (revokePayload h .revoked)
        (((s.markTaken p ⟨client, 0x06, payload⟩).retireGrant i .revoked).settle (g.holds || s.ctl.adjusting i)))) := by
  rw [exec_revoke served, revokeEvent, read,
    withHandle_named (by rw [markTaken_running, running_of_mode hn.1]) (by rw [markTaken_ctl]; exact hn.2)]
  refine ⟨fun reason hs => ?_, fun lives => ?_⟩
  · simp only [hs, answer_markTaken]
  · rw [markTaken_ctl]
    cases hs : g.state with
    | closed reason => rw [isLiving_of_closed (isClosed_of_closed hs)] at lives; cases lives
    | _ => rfl

theorem retire_closed (hg : s.ctl.grantAt i = some g) (c : Controller) (table : c.table = s.ctl.table)
    (reason : CloseReason) : (c.retire s.config.profiles i reason).table[i] = ⟨s.ctl.table[i].generation,
      some { g with state := .closed reason, notices := { g.notices with closed := true } }⟩ := by
  rw [retire_slot ((grantAt_of_table table i).trans hg), table]

end

/-- Settles O39: a CLOSED grant, a living one, and the adjusted one. -/
theorem revokeRetiresGrant : Obligations.RevokeRetiresGrant := by
  intro s p client payload who h i g served read hn
  have hg := lookup_grantAt hn.2
  obtain ⟨ofClosed, ofLiving⟩ := exec_revoke_named served read hn
  have bytes : ∀ reason : CloseReason, revokePayload h reason = put16 h ++ [4] ++
      put8 (if reason = .expired then 1 else if reason = .channelFault then 2 else 3) := fun reason => by
    cases reason <;> rfl
  refine ⟨fun reason hs => by rw [ofClosed reason hs, bytes], fun lives => ?_⟩
  have run := ofLiving lives
  have revoked : revokePayload h .revoked = put16 h ++ [4, 3] := by
    rw [bytes, List.append_assoc]; rfl
  intro closed
  refine ⟨fun still => ?_, fun held adj hh ne => ?_⟩
  · have goes : exec (.revoke p client payload) s = .next (settledAnswer s p who client 0x06 payload
        (s.ctl.retire s.config.profiles i .revoked) g.holds .ok (put16 h ++ [4, 3])) := by
      rw [run, revoked, still, Bool.or_false]
      simp only [State.retireGrant, markTaken_ctl, markTaken_config, still, Bool.false_eq_true, if_false]
      rfl
    have slot : (s.ctl.retire s.config.profiles i .revoked).table[i] = closed := retire_closed hg s.ctl rfl _
    have quiet := not_waits_of_slot slot rfl
    have others : OtherSlotsKept s.ctl (s.ctl.retire s.config.profiles i .revoked) i := fun j ne => retire_slot_of_ne _ _ _ ne
    have kept := retire_kept s.ctl s.config.profiles i .revoked
    refine ⟨_, goes, ?_, ?_, fun idle j ne => ?_, settledAnswer_sameButSummaries _ _ _ _ _ _ _ _ _ _,
      settledAnswer_kept _ _ _ _ _ _ _ _ _ kept, settledAnswer_alertsExact _ _ _ _ _ _ _ _ _ _,
      settledAnswer_requestKept _ _ _ _ _ _ _ _ _ _, settledAnswer_answered _ _ _ _ _ _ _ _ _ _⟩
    · rw [settledAnswer_table]; exact (passIf_slot_of_not_waits _ quiet).trans slot
    · intro j ne
      rw [settledAnswer_table, settledAnswer_grantAt]
      exact othersKept_passIf others _ j ne
    · rw [settledAnswer_table, passIf_of_not_trigger (idle.imp_right (inFlight_congr kept.2.2.2.1).trans)]
      exact others j ne
  · obtain ⟨flying, -⟩ := adjusting_flying adj
    have goes : exec (.revoke p client payload) s = .next (abandonedAnswer s p who client 0x06 payload
        ((withoutRepack s.ctl).retire s.config.profiles i .revoked) .ok (put16 h ++ [4, 3])) := by
      have ctl : ((s.markTaken p ⟨client, 0x06, payload⟩).abandon (.noRoom .repackAbandoned)).ctl = withoutRepack s.ctl := by
        rw [abandon_ctl_of_inFlight (by rwa [markTaken_ctl]), markTaken_ctl]
      rw [run, revoked, adj, Bool.or_true]
      simp only [State.retireGrant, markTaken_ctl, adj, if_true, ctl, abandon_config, markTaken_config]
      rfl
    have slot : ((withoutRepack s.ctl).retire s.config.profiles i .revoked).table[i] = closed :=
      retire_closed hg (withoutRepack s.ctl) rfl _
    have quiet := not_waits_of_slot slot rfl
    have others : OtherSlotsKept s.ctl ((withoutRepack s.ctl).retire s.config.profiles i .revoked) i :=
      fun j ne => retire_slot_of_ne (withoutRepack s.ctl) _ _ ne
    have kept := retire_kept (withoutRepack s.ctl) s.config.profiles i .revoked
    obtain ⟨repack, noHeld, noPlan⟩ := abandonedAnswer_repack s p who client 0x06 payload .ok (put16 h ++ [4, 3]) flying kept
    refine ⟨_, goes, ?_, ?_, repack, noHeld, noPlan, abandonedAnswer_sameButSummaries _ _ _ _ _ _ _ _ kept,
      abandonedAnswer_answersHeld _ _ _ _ _ _ _ _ _ flying hh ne,
      abandonedAnswer_requestKept _ _ _ _ _ _ _ _ _ flying hh ne, abandonedAnswer_alertsExact _ _ _ _ _ _ _ _ _,
      abandonedAnswer_answered _ _ _ _ _ _ _ _ _⟩
    · rw [abandonedAnswer_table]; exact (passIf_slot_of_not_waits _ quiet).trans slot
    · intro j ne
      rw [abandonedAnswer_table, grantAt_of_table (abandonedAnswer_table _ _ _ _ _ _ _ _ _)]
      exact othersKept_passIf others _ j ne

/-! ## DROP_CLIENT (R127 to R129) -/

section
variable {s : State} {p : Port} {client named : Byte} {who : Client} {c : Client}

theorem exec_dropClient (served : Served s p client 0x07 [named] who) : exec (.dropClient p client [named]) s =
    .next (dropEvent [named] ⟨p, who, client, 0x07⟩ (s.markTaken p ⟨client, 0x07, [named]⟩)) :=
  congrArg Host.Outcome.next (runRequest_served served _)

/-- The slots freed one after another. -/
theorem frees_slot {profiles : Vector Profile 16} (l : List SlotIx) (nodup : l.Nodup) (c : Controller) (j : SlotIx) :
    (l.foldl (fun d i => d.free profiles i) c).table[j] =
      if j ∈ l then ⟨c.table[j].generation + 1, none⟩ else c.table[j] := by
  induction l generalizing c with
  | nil => rfl
  | cons i l ih =>
    obtain ⟨out, nodup⟩ := List.nodup_cons.1 nodup
    rw [List.foldl_cons, ih nodup]
    by_cases e : j = i
    · subst e; rw [if_neg out, if_pos List.mem_cons_self, free_slot]
    · rw [free_slot_of_ne _ _ e]
      simp only [List.mem_cons, e, false_or]

theorem frees_kept {profiles : Vector Profile 16} (l : List SlotIx) (c : Controller) :
    CeilingsAndRepackKept c (l.foldl (fun d i => d.free profiles i) c) :=
  foldl_induct (motive := CeilingsAndRepackKept c) (ceilingsKept_refl c) fun _ _ _ kept =>
    ceilingsKept_trans kept (free_kept _ _ _)

theorem mem_ownedSlots {d : Controller} {i : SlotIx} : i ∈ d.ownedSlots c ↔ ∃ g, d.grantAt i = some g ∧ g.owner = c := by
  simp only [Controller.ownedSlots, Controller.slotsWhere, allSlots, List.mem_filter, List.mem_finRange, true_and,
    Option.any_eq_true, beq_iff_eq]

theorem ownedSlots_nodup (d : Controller) (c : Client) : (d.ownedSlots c).Nodup := slotsWhere_nodup _ _

/-- Every slot of the client is FREE after the pass, and the others as the pass leaves them (R128). -/
theorem dropped_slots {profiles : Vector Profile 16} {d e : Controller} {b : Bool} (table : d.table = s.ctl.table)
    (after : e.table = (((s.ctl.ownedSlots c).foldl (fun d i => d.free profiles i) d).passIf profiles b).table) :
    (∀ i : SlotIx, ∀ g : Grant, s.ctl.grantAt i = some g → g.owner = c →
      e.table[i] = ⟨s.ctl.table[i].generation + 1, none⟩) ∧
    ∀ i : SlotIx, (∀ g, s.ctl.grantAt i = some g → g.owner ≠ c) → e.table[i].generation = s.ctl.table[i].generation ∧
      ((s.ctl.grantAt i).any Grant.waits = false → e.grantAt i = s.ctl.grantAt i) := by
  have slot := frees_slot (profiles := profiles) _ (ownedSlots_nodup s.ctl c) d
  refine ⟨fun i g hg ho => ?_, fun i other => ?_⟩
  · have gone := (slot i).trans (if_pos (mem_ownedSlots.2 ⟨g, hg, ho⟩))
    rw [after, passIf_slot_of_not_waits b (not_waits_of_slot gone rfl), gone, table]
  · have stays := (slot i).trans (if_neg fun mem => by
      obtain ⟨g, hg, ho⟩ := mem_ownedSlots.1 mem; exact other g hg ho)
    have grant : ((s.ctl.ownedSlots c).foldl (fun d i => d.free profiles i) d).grantAt i = s.ctl.grantAt i := by
      rw [grantAt_def, stays, table]; rfl
    refine ⟨by rw [after, passIf_generation, stays, table], fun quiet => ?_⟩
    rw [grantAt_of_table after, passIf_grantAt_of_not_waits b (by rw [grant]; exact quiet), grant]

theorem repackTouches_flying (h : s.ctl.repackTouches c = true) : s.ctl.inFlight = true := by
  rw [Controller.repackTouches, Bool.or_eq_true, Bool.and_eq_true, List.any_eq_true] at h
  rcases h with ⟨flying, -⟩ | ⟨i, -, adj⟩
  · exact flying
  · exact (adjusting_flying adj).1

/-- The checks of a DROP_CLIENT passed (R127). -/
theorem exec_dropClient_permitted (served : Served s p client 0x07 [named] who) (hm : s.config.mode = .run)
    (hc : c.val = named.toNat) (permitted : who = c ∨ who = 0) : exec (.dropClient p client [named]) s =
      .next (answer ⟨p, who, client, 0x07⟩ .ok ([named] ++ put8 (s.ctl.ownedSlots c).length)
        ((s.markTaken p ⟨client, 0x07, [named]⟩).dropGrants c)) := by
  have read : readClient [named] = some c := by
    rw [readClient, clientOf_val (hc ▸ c.isLt)]
    exact congrArg some (Fin.ext hc.symm)
  have refuses : ¬ (who ≠ c ∧ who ≠ 0) := fun ⟨no, no'⟩ => permitted.elim no no'
  rw [exec_dropClient served, dropEvent, markTaken_running, running_of_mode hm]
  simp only [Bool.not_true, Bool.false_eq_true, if_false, read, if_neg refuses, markTaken_ctl, hc, put8_toNat]

end

/-- Settles O40: the checks, the drop alone, and the drop that abandons a repack. -/
theorem dropClientFreesGrants : Obligations.DropClientFreesGrants := by
  intro s p client named who served refused
  refine ⟨fun hm => ?_, fun hm above => ?_, fun hm within other plain => ?_, fun c hm hc permitted => ?_⟩
  · show exec _ _ = _
    rw [exec_dropClient served, dropEvent, markTaken_running, not_running_of_mode hm]
    simp only [Bool.not_false, if_true, answer_markTaken]
  · show exec _ _ = _
    rw [exec_dropClient served, dropEvent, markTaken_running, running_of_mode hm]
    simp only [Bool.not_true, Bool.false_eq_true, if_false, readClient, clientOf_of_le above, answer_markTaken]
  · show exec _ _ = _
    have lt : named.toNat < 8 := by omega
    have refuses : who ≠ ⟨named.toNat, lt⟩ ∧ who ≠ 0 := ⟨fun e => other (by rw [e]), plain⟩
    rw [exec_dropClient served, dropEvent, markTaken_running, running_of_mode hm]
    simp only [Bool.not_true, Bool.false_eq_true, if_false, readClient, clientOf_val lt, if_pos refuses, answer_markTaken]
  intro owned dropped freed
  have run := exec_dropClient_permitted served hm hc permitted
  refine ⟨fun aside => ?_, fun held touches hh ne => ?_⟩
  · have goes : exec (.dropClient p client [named]) s = .next (settledAnswer s p who client 0x07 [named] (freed s.ctl)
        (owned.any fun i => (s.ctl.grantAt i).any Grant.holds) .ok ([named] ++ put8 owned.length)) := by
      rw [run]
      simp only [State.dropGrants, markTaken_ctl, markTaken_config, aside, Bool.false_eq_true, if_false, Bool.or_false]
      rfl
    have kept : CeilingsAndRepackKept s.ctl (freed s.ctl) := frees_kept _ _
    obtain ⟨gone, others⟩ := dropped_slots (s := s) (c := c) (d := s.ctl) rfl (settledAnswer_table s p who client 0x07 [named]
      (freed s.ctl) (owned.any fun i => (s.ctl.grantAt i).any Grant.holds) .ok ([named] ++ put8 owned.length))
    have frame := settledAnswer_requestKept s p who client 0x07 [named] (freed s.ctl)
      (owned.any fun i => (s.ctl.grantAt i).any Grant.holds) .ok ([named] ++ put8 owned.length)
    obtain ⟨⟨-, config, -, timer, engine, supply, -, events⟩, -⟩ := id frame
    exact ⟨_, ⟨goes, gone, others, config, engine, supply, timer, events, settledAnswer_alertsExact _ _ _ _ _ _ _ _ _ _,
      settledAnswer_answered _ _ _ _ _ _ _ _ _ _⟩, frame, settledAnswer_kept _ _ _ _ _ _ _ _ _ kept,
      settledAnswer_sameButSummaries _ _ _ _ _ _ _ _ _ _⟩
  · have flying := repackTouches_flying touches
    have goes : exec (.dropClient p client [named]) s = .next (abandonedAnswer s p who client 0x07 [named]
        (freed (withoutRepack s.ctl)) .ok ([named] ++ put8 owned.length)) := by
      have ctl : ((s.markTaken p ⟨client, 0x07, [named]⟩).abandon (.noRoom .repackAbandoned)).ctl = withoutRepack s.ctl := by
        rw [abandon_ctl_of_inFlight (by rwa [markTaken_ctl]), markTaken_ctl]
      rw [run]
      simp only [State.dropGrants, markTaken_ctl, markTaken_config, touches, if_true, Bool.or_true, ctl, abandon_config]
      rfl
    have kept : CeilingsAndRepackKept (withoutRepack s.ctl) (freed (withoutRepack s.ctl)) := frees_kept _ _
    obtain ⟨gone, others⟩ := dropped_slots (s := s) (c := c) (d := withoutRepack s.ctl) rfl (abandonedAnswer_table s p who
      client 0x07 [named] (freed (withoutRepack s.ctl)) .ok ([named] ++ put8 owned.length))
    obtain ⟨repack, noHeld, noPlan⟩ := abandonedAnswer_repack s p who client 0x07 [named] .ok
      ([named] ++ put8 owned.length) flying kept
    have frame := abandonedAnswer_requestKept s p who client 0x07 [named] (freed (withoutRepack s.ctl)) .ok
      ([named] ++ put8 owned.length) flying hh ne
    obtain ⟨⟨-, config, -, timer, engine, supply, -⟩, events, -⟩ := id frame
    exact ⟨_, ⟨goes, gone, others, config, engine, supply, timer, events, abandonedAnswer_alertsExact _ _ _ _ _ _ _ _ _,
      abandonedAnswer_answered _ _ _ _ _ _ _ _ _⟩, repack, noHeld, noPlan,
      abandonedAnswer_sameButSummaries _ _ _ _ _ _ _ _ kept,
      abandonedAnswer_answersHeld _ _ _ _ _ _ _ _ _ flying hh ne, frame⟩

end Sys2Proof.Proofs
end

section
/-! SUPPORT. The channel fault taken at the grant controller (O57). -/

namespace Sys2Proof.Proofs

open Sys2Proof Sys2Proof.Machine Sys2Proof.Safety Sys2Proof.Laws

/-! ## The grants a fault closes -/

section
variable {c d : Controller} {profiles : Vector Profile 16} {ch : Channel} {i j : SlotIx} {g : Grant}

/-- A grant as a fault closes it (R165, R116). -/
def faultedRecord (g : Grant) : Grant :=
  { g with state := .closed .channelFault, notices := { g.notices with closed := true } }

/-- The members of a list that meet a test which at most one meets. -/
theorem filter_of_unique {α : Type} {test : α → Bool} {l : List α} (nodup : l.Nodup)
    (one : ∀ a b, test a = true → test b = true → a = b) : l.filter test = (l.find? test).toList := by
  induction l with
  | nil => rfl
  | cons a l ih =>
    obtain ⟨out, nodup⟩ := List.nodup_cons.1 nodup
    cases meets : test a with
    | false => rw [List.filter_cons_of_neg (by rw [meets]; decide), List.find?_cons_of_neg (by rw [meets]; decide), ih nodup]
    | true =>
      have rest : l.filter test = [] := List.filter_eq_nil_iff.2 fun b hb more => out (one a b meets more ▸ hb)
      rw [List.filter_cons_of_pos meets, List.find?_cons_of_pos meets, rest]
      rfl

theorem faultOrder_eq (one : ∀ i j : SlotIx, ∀ gi gj : Grant, c.grantAt i = some gi → c.grantAt j = some gj →
    gi.holds = true → gj.holds = true → gi.channel = gj.channel → i = j) : c.faultOrder ch = livingOnChannel c ch := by
  have holders : ((List.finRange 32).filter fun i => (c.grantAt i).any fun g => g.holds && g.channel == ch) =
      (c.holder ch).toList := by
    refine filter_of_unique (List.nodup_finRange 32) fun i j hi hj => ?_
    simp only [Option.any_eq_true, Bool.and_eq_true, beq_iff_eq] at hi hj
    obtain ⟨gi, hgi, ki, ci⟩ := hi
    obtain ⟨gj, hgj, kj, cj⟩ := hj
    exact one i j gi gj hgi hgj ki kj (ci.trans cj.symm)
  rw [Controller.faultOrder, livingOnChannel, holders]
  rfl

/-- The grants of a fault are the living ones of its channel, in the admission of the lists' law (R19, R165). -/
theorem mem_livingOnChannel (lists : ListsExact c) :
    i ∈ livingOnChannel c ch ↔ ∃ g, c.grantAt i = some g ∧ g.isLiving = true ∧ g.channel = ch := by
  obtain ⟨-, -, waiting, -, -⟩ := lists
  simp only [livingOnChannel, List.mem_append, List.mem_filter, List.mem_finRange, true_and, waiting i,
    Option.any_eq_true, Bool.and_eq_true, beq_iff_eq]
  constructor
  · rintro (⟨g, hg, holds, hch⟩ | ⟨⟨-, -, -⟩, g, hg, queued, hch⟩)
    · exact ⟨g, hg, living_of_holds holds, hch⟩
    · exact ⟨g, hg, by simp [Grant.isLiving, Grant.isClosed, queued], hch⟩
  · rintro ⟨g, hg, lives, hch⟩
    cases hs : g.state with
    | active start r => exact .inl ⟨g, hg, holds_of_active (isActive_of_active hs), hch⟩
    | deferred => exact .inl ⟨g, hg, holds_of_deferred hs, hch⟩
    | queued => exact .inr ⟨⟨g, hg, by simp [Grant.waits, hs]⟩, g, hg, hs, hch⟩
    | closed reason => rw [isLiving_of_closed (isClosed_of_closed hs)] at lives; cases lives

theorem retires_grantAt (l : List SlotIx) (c : Controller) (j : SlotIx) :
    (l.foldl (fun d i => d.retire profiles i .channelFault) c).grantAt j =
      if j ∈ l then (c.grantAt j).map faultedRecord else c.grantAt j := by
  induction l generalizing c with
  | nil => rfl
  | cons i l ih =>
    rw [List.foldl_cons, ih]
    by_cases e : j = i
    · subst e
      have here : (c.retire profiles j .channelFault).grantAt j = (c.grantAt j).map faultedRecord := by
        cases hg : c.grantAt j with
        | none => rw [retire_of_free profiles hg, hg]; rfl
        | some g => rw [retire_grantAt profiles hg]; rfl
      rw [here, if_pos List.mem_cons_self]
      split
      · cases c.grantAt j <;> rfl
      · rfl
    · rw [retire_grantAt_of_ne _ _ _ e]
      simp only [List.mem_cons, e, false_or]

theorem retires_kept (l : List SlotIx) (c : Controller) :
    CeilingsAndRepackKept c (l.foldl (fun d i => d.retire profiles i .channelFault) c) ∧
    ∀ j : SlotIx, (l.foldl (fun d i => d.retire profiles i .channelFault) c).table[j].generation = c.table[j].generation := by
  refine foldl_induct (motive := fun d => CeilingsAndRepackKept c d ∧
    ∀ j : SlotIx, d.table[j].generation = c.table[j].generation) ⟨ceilingsKept_refl c, fun _ => rfl⟩
    fun d i _ ⟨kept, gen⟩ => ⟨ceilingsKept_trans kept (retire_kept _ _ _ _), fun j => ?_⟩
  rw [retire_generation, gen]

/-- The slots after the closings and the pass. -/
theorem faulted_slots {t : Controller} {b : Bool} (lists : ListsExact c) (same : ∀ j, d.grantAt j = c.grantAt j)
    (gen : ∀ j : SlotIx, d.table[j].generation = c.table[j].generation)
    (table : t.table = (((livingOnChannel c ch).foldl (fun d i => d.retire profiles i .channelFault) d).passIf
      profiles b).table) (i : SlotIx) :
    t.table[i].generation = c.table[i].generation ∧ (c.grantAt i = none → t.grantAt i = none) ∧
      ∀ g : Grant, c.grantAt i = some g →
        (g.isLiving = true → g.channel = ch → t.grantAt i = some (faultedRecord g)) ∧
        (g.isActive = true ∨ g.isClosed = true → g.channel ≠ ch ∨ g.isClosed = true → t.grantAt i = some g) := by
  have now := retires_grantAt (profiles := profiles) (livingOnChannel c ch) d i
  rw [same] at now
  have still : ∀ {x}, ((livingOnChannel c ch).foldl (fun d i => d.retire profiles i .channelFault) d).grantAt i = x →
      x.any Grant.waits = false → t.grantAt i = x := fun e quiet => by
    rw [grantAt_of_table table, passIf_grantAt_of_not_waits b (by rw [e]; exact quiet), e]
  refine ⟨by rw [table, passIf_generation, (retires_kept _ _).2, gen], fun free => ?_, fun g hg => ⟨fun lives hch => ?_,
    fun quiet aside => ?_⟩⟩
  · rw [free, Option.map_none, ite_self] at now
    exact still now rfl
  · rw [if_pos ((mem_livingOnChannel lists).2 ⟨g, hg, lives, hch⟩), hg] at now
    exact still now rfl
  · rw [if_neg, hg] at now
    · exact still now (quiet.elim not_waits_of_active not_waits_of_closed)
    · rw [mem_livingOnChannel lists]
      rintro ⟨g', hg', lives, hch⟩
      rw [hg] at hg'
      cases hg'
      rcases aside with other | closed
      · exact other hch
      · rw [isLiving_of_closed closed] at lives; cases lives

end

/-! ## Taking the fault (R165) -/

section
variable {s : State} {ch : Channel}

/-- The state that has taken a channel fault raised. -/
def faultTaken (s : State) (ch : Channel) : State :=
  { s with events := { s.events with channelFaults := s.events.channelFaults.erase ch } }

theorem faultTaken_ctl : (faultTaken s ch).ctl = s.ctl := rfl
theorem faultTaken_config : (faultTaken s ch).config = s.config := rfl

theorem exec_channelFault_config (raised : ch ∈ s.events.channelFaults) (hm : s.config.mode = .config) :
    exec (.channelFault ch) s = .next (faultTaken s ch) := by
  simp [exec, execChannelFault, raised, not_running_of_mode (s := s) (by rw [hm]; decide), faultTaken]
theorem exec_channelFault_run (raised : ch ∈ s.events.channelFaults) (hm : s.config.mode = .run) :
    exec (.channelFault ch) s = .next ((faultTaken s ch).closeChannel ch) := by
  simp [exec, execChannelFault, raised, running_of_mode hm, faultTaken]

theorem closeChannel_aside (one : OneHolder s.ctl) (aside : s.ctl.faultAbandons ch = false) : s.closeChannel ch =
    (s.withCtl ((livingOnChannel s.ctl ch).foldl (fun d i => d.retire s.config.profiles i .channelFault) s.ctl)).settle
      (!(livingOnChannel s.ctl ch).isEmpty) := by
  simp only [State.closeChannel, aside, Bool.false_eq_true, if_false, Bool.or_false, faultOrder_eq one.1]

theorem closeChannel_abandons (one : OneHolder s.ctl) (abandons : s.ctl.faultAbandons ch = true)
    (flying : s.ctl.inFlight = true) : s.closeChannel ch =
    ((s.abandon (.noRoom .repackAbandoned)).withCtl ((livingOnChannel s.ctl ch).foldl
      (fun d i => d.retire s.config.profiles i .channelFault) (withoutRepack s.ctl))).settle true := by
  have order : (withoutRepack s.ctl).faultOrder ch = livingOnChannel s.ctl ch := faultOrder_eq one.1
  simp only [State.closeChannel, abandons, if_true, Bool.or_true, abandon_ctl_of_inFlight flying, abandon_config, order]

theorem requestedChannel_iff : s.ctl.requestedChannel ch = true ↔
    ∃ held prio duty lease, s.ctl.inFlight = true ∧ s.ctl.held = some held ∧ held.kind = .grant ch prio duty lease := by
  rw [Controller.requestedChannel, Bool.and_eq_true, Option.any_eq_true]
  constructor
  · rintro ⟨flying, held, hh, same⟩
    cases hk : held.kind with
    | grant ch' prio duty lease =>
      simp only [hk, beq_iff_eq] at same
      exact ⟨held, prio, duty, lease, flying, hh, by rw [hk, same]⟩
    | adjust handle target => simp only [hk, Bool.false_eq_true] at same
  · rintro ⟨held, prio, duty, lease, flying, hh, hk⟩
    exact ⟨flying, held, hh, by simp only [hk, beq_self_eq_true]⟩

theorem faultAbandons_iff (lists : ListsExact s.ctl) (one : OneHolder s.ctl) : s.ctl.faultAbandons ch = true ↔
    s.ctl.requestedChannel ch = true ∨ ∃ i g, s.ctl.grantAt i = some g ∧ g.isLiving = true ∧ g.channel = ch ∧
      s.ctl.adjusting i = true := by
  rw [Controller.faultAbandons, Bool.or_eq_true, faultOrder_eq one.1, List.any_eq_true]
  refine or_congr_right ⟨?_, ?_⟩
  · rintro ⟨i, mem, adj⟩
    obtain ⟨g, hg, lives, hch⟩ := (mem_livingOnChannel lists).1 mem
    exact ⟨i, g, hg, lives, hch, adj⟩
  · rintro ⟨i, g, hg, lives, hch, adj⟩
    exact ⟨i, (mem_livingOnChannel lists).2 ⟨g, hg, lives, hch⟩, adj⟩

theorem faultAbandons_flying (lists : ListsExact s.ctl) (one : OneHolder s.ctl) (h : s.ctl.faultAbandons ch = true) :
    s.ctl.inFlight = true := by
  rcases (faultAbandons_iff lists one).1 h with requested | ⟨i, -, -, -, -, adj⟩
  · obtain ⟨-, -, -, -, flying, -⟩ := requestedChannel_iff.1 requested
    exact flying
  · exact (adjusting_flying adj).1

end

theorem settled_table (u : State) (c : Controller) (b : Bool) :
    ((u.withCtl c).settle b).ctl.table = (c.passIf u.config.profiles b).table := rfl

/-- Settles O57: in CONFIG; with and without an abandonment in RUN. -/
theorem channelFaultClosesGrants : Obligations.ChannelFaultClosesGrants := by
  intro s ch raised taken
  refine ⟨fun hm => exec_channelFault_config raised hm, fun hm lists one => ?_⟩
  have run := exec_channelFault_run raised hm
  cases ab : s.ctl.faultAbandons ch with
  | false =>
    have none := mt (faultAbandons_iff lists one).2 (by rw [ab]; decide)
    rw [not_or] at none
    obtain ⟨notRequested, notAdjusted⟩ := none
    have eq := closeChannel_aside (s := faultTaken s ch) (ch := ch) one ab
    rw [faultTaken_ctl, faultTaken_config] at eq
    rw [eq] at run
    obtain ⟨events, config, engine, supply, timer, planner⟩ := settled_blocks (faultTaken s ch)
      ((livingOnChannel s.ctl ch).foldl (fun d i => d.retire s.config.profiles i .channelFault) s.ctl)
      (!(livingOnChannel s.ctl ch).isEmpty)
    have frame := eventKept_settle (eventKept_withCtl (eventKept_events s taken)
      ((livingOnChannel s.ctl ch).foldl (fun d i => d.retire s.config.profiles i .channelFault) s.ctl))
      (!(livingOnChannel s.ctl ch).isEmpty)
    refine ⟨_, run, events, config, engine, supply, timer, settle_exact _ _, fun i => ?_, fun _ => ⟨frame, planner⟩, ?_⟩
    · exact faulted_slots lists (fun _ => rfl) (fun _ => rfl) (settled_table _ _ _) i
    · intro closing closed abandoned
      refine ⟨fun held prio duty lease flying hh hk => ?_, fun held i g adj hh hg lives hch => ?_,
        fun _ _ => ⟨frame, planner, ?_, ?_⟩⟩
      · exact absurd (requestedChannel_iff.2 ⟨held, prio, duty, lease, flying, hh, hk⟩) notRequested
      · exact absurd ⟨i, g, hg, lives, hch, adj⟩ notAdjusted
      · rw [settle_ctl, withCtl_ctl]
        exact ceilingsKept_trans (retires_kept _ _).1 (passIf_ceilings _)
      · refine settle_sameAs ?_
        rw [withCtl_ctl, withCtl_config, faultTaken_config]
  | true =>
    have flying := faultAbandons_flying lists one ab
    have eq := closeChannel_abandons (s := faultTaken s ch) (ch := ch) one ab flying
    rw [faultTaken_ctl, faultTaken_config] at eq
    rw [eq] at run
    have kept := (retires_kept (profiles := s.config.profiles) (livingOnChannel s.ctl ch) (withoutRepack s.ctl)).1
    have blocks := settled_blocks ((faultTaken s ch).abandon (.noRoom .repackAbandoned))
      ((livingOnChannel s.ctl ch).foldl (fun d i => d.retire s.config.profiles i .channelFault) (withoutRepack s.ctl)) true
    rw [abandon_events, abandon_config, abandon_engine, abandon_supply, abandon_timer,
      abandon_dropsPlan (s := faultTaken s ch) flying] at blocks
    obtain ⟨events, config, engine, supply, timer, planner⟩ := blocks
    have table := settled_table ((faultTaken s ch).abandon (.noRoom .repackAbandoned))
      ((livingOnChannel s.ctl ch).foldl (fun d i => d.retire s.config.profiles i .channelFault) (withoutRepack s.ctl)) true
    rw [abandon_config, faultTaken_config] at table
    refine ⟨_, run, events, config, engine, supply, timer, settle_exact _ _, fun i => ?_, fun idle => ?_, ?_⟩
    · exact faulted_slots (d := withoutRepack s.ctl) lists (fun _ => rfl) (fun _ => rfl) table i
    · rw [flying] at idle; cases idle
    · intro closing closed abandoned
      have idle : (closed (withoutRepack s.ctl)).inFlight = false :=
        (inFlight_congr kept.2.2.2.1).trans (withoutRepack_inFlight _)
      have gone : ∀ held, s.ctl.held = some held → abandoned held := fun held hh => by
        refine ⟨?_, by rw [planner], ?_, answered_settle (answered_withCtl (abandon_answersHeld (s := faultTaken s ch)
          flying hh _) _) _, eventKeptHeld_settle (eventKeptHeld_withCtl (eventKeptHeld_abandon (s := faultTaken s ch)
            flying hh _) _) _⟩
        · rw [settle_inFlight]
          exact (inFlight_congr (passIf_ceilings _).2.2.2.1).trans idle
        · refine settle_sameAs ?_
          rw [withCtl_ctl, withCtl_config, abandon_config, faultTaken_config]
          exact passIf_of_idle_eq idle
      refine ⟨fun held prio duty lease _ hh _ => gone held hh, fun held i g _ hh _ _ _ => gone held hh,
        fun notRequested notAdjusted => ?_⟩
      rcases (faultAbandons_iff lists one).1 ab with requested | ⟨i, g, hg, lives, hch, adj⟩
      · obtain ⟨held, prio, duty, lease, flying, hh, hk⟩ := requestedChannel_iff.1 requested
        exact absurd hk (notRequested held prio duty lease flying hh)
      · rw [notAdjusted i g hg lives hch] at adj; cases adj

end Sys2Proof.Proofs
end

section
/-! SUPPORT. The apply of a plan (O59). -/

namespace Sys2Proof.Proofs

open Sys2Proof Sys2Proof.Machine Sys2Proof.Safety Sys2Proof.Laws

/-! ## The applied controller (R88, R39) -/

section
variable {c : Controller} {profiles : Vector Profile 16} {held : HeldRequest} {plan : List Proposal} {i : SlotIx} {g : Grant}

theorem loadFrom_eq (c : Controller) (profiles : Vector Profile 16) (k : Segment) (i : SlotIx) :
    c.loadFrom profiles k i = ((c.grantAt i).map fun g => match g.state with
      | .active start r => if covers start r k then profiles[g.channel].current else 0
      | _ => 0).getD 0 := by
  unfold Controller.loadFrom
  cases c.grantAt i with
  | none => rfl
  | some g => cases g.state <;> rfl

theorem chargeFrom_eq (c : Controller) (profiles : Vector Profile 16) (i : SlotIx) :
    c.chargeFrom profiles i = ((c.grantAt i).map fun g => match g.state with
      | .active _ r => profiles[g.channel].current * r
      | _ => 0).getD 0 := by
  unfold Controller.chargeFrom
  cases c.grantAt i with
  | none => rfl
  | some g =>
    cases hs : g.state <;> simp only [Grant.room, hs, Option.map_some, Option.getD_some, Nat.mul_zero] <;> rfl

theorem applied_load (k : Segment) : (appliedController c profiles held plan).loadMap[k] =
    ((List.finRange 32).map ((appliedController c profiles held plan).loadFrom profiles k)).sum := by
  have same : (appliedController c profiles held plan).loadFrom profiles k =
      (movedAndMade c held plan).loadFrom profiles k := by
    funext i; simp only [Controller.loadFrom, applied_grantAt]
  rw [same, appliedController_eq, withoutRepack_loadMap]
  simp only [Controller.rebuild, Fin.getElem_fin, Vector.getElem_ofFn]
  rfl

theorem applied_charge : (appliedController c profiles held plan).totalCharge =
    ((List.finRange 32).map ((appliedController c profiles held plan).chargeFrom profiles)).sum := by
  have same : (appliedController c profiles held plan).chargeFrom profiles =
      (movedAndMade c held plan).chargeFrom profiles := by
    funext i; simp only [Controller.chargeFrom, applied_grantAt]
  rw [same, appliedController_eq, withoutRepack_totalCharge]
  rfl

theorem applied_generation (j : SlotIx) :
    (appliedController c profiles held plan).table[j].generation = c.table[j].generation := by
  rw [appliedController_eq, withoutRepack_table, rebuild_table]
  exact movedAndMade_generation held c plan j

theorem applied_kept : (appliedController c profiles held plan).waiting = c.waiting ∧
    (appliedController c profiles held plan).tierInForce = c.tierInForce ∧
    (appliedController c profiles held plan).peakInForce = c.peakInForce ∧
    (appliedController c profiles held plan).chargeInForce = c.chargeInForce ∧
    (appliedController c profiles held plan).planSerial = c.planSerial := by
  rw [appliedController_eq]
  simp only [withoutRepack_waiting, withoutRepack_tierInForce, withoutRepack_peakInForce, withoutRepack_chargeInForce,
    withoutRepack_planSerial, rebuild_waiting, rebuild_tierInForce, rebuild_peakInForce, rebuild_chargeInForce,
    rebuild_planSerial]
  exact movedAndMade_kept c held plan

theorem moved_admission (c : Controller) (held : HeldRequest) (plan : List Proposal) :
    (plan.foldl (moveOne held) c).admission = c.admission := by
  refine moved_induct (motive := fun d => d.admission = c.admission) rfl fun d q _ hd => ?_
  rcases moveOne_record held d q with e | ⟨i, g, start, r, -, -, -, e⟩ <;> rw [e]
  · exact hd
  · rw [putGrant_admission, hd]

/-- Where no grant is created the apply is the plan's moves. -/
theorem applied_of_no_creation (none : createdBy c held plan = none) :
    (∀ j, (appliedController c profiles held plan).grantAt j = (plan.foldl (moveOne held) c).grantAt j) ∧
    (appliedController c profiles held plan).admission = c.admission := by
  have made : movedAndMade c held plan = plan.foldl (moveOne held) c := by simp only [movedAndMade, none]
  refine ⟨fun j => by rw [applied_grantAt, made], ?_⟩
  rw [appliedController_eq, withoutRepack_admission, rebuild_admission, made, moved_admission]

theorem applied_of_creation (made : createdBy c held plan = some (i, g)) :
    (appliedController c profiles held plan).grantAt i = some g ∧
    (∀ j, j ≠ i → (appliedController c profiles held plan).grantAt j = (plan.foldl (moveOne held) c).grantAt j) ∧
    (appliedController c profiles held plan).admission = c.admission ++ [i] := by
  have eq : movedAndMade c held plan = { (plan.foldl (moveOne held) c).putGrant i g with
      admission := (plan.foldl (moveOne held) c).admission ++ [i] } := by simp only [movedAndMade, made]
  have table : (movedAndMade c held plan).table = ((plan.foldl (moveOne held) c).putGrant i g).table := by rw [eq]
  refine ⟨?_, fun j ne => ?_, ?_⟩
  · rw [applied_grantAt, grantAt_of_table table, putGrant_grantAt]
  · rw [applied_grantAt, grantAt_of_table table, putGrant_grantAt_of_ne _ _ ne]
  · rw [appliedController_eq, withoutRepack_admission, rebuild_admission, eq, moved_admission]

/-- A slot that held a grant holds what the plan's moves left in it. -/
theorem applied_of_occupied (hg : c.grantAt i = some g) :
    (appliedController c profiles held plan).grantAt i = (plan.foldl (moveOne held) c).grantAt i := by
  cases made : createdBy c held plan with
  | none => exact (applied_of_no_creation made).1 i
  | some x =>
    obtain ⟨j, g'⟩ := x
    obtain ⟨-, -, -, -, -, -, free, -⟩ := createdBy_some made
    refine (applied_of_creation made).2.1 i fun e => ?_
    rw [e, freeSlot_free free] at hg
    cases hg

theorem createdBy_adjust {handle target : Nat} (hk : held.kind = .adjust handle target) : createdBy c held plan = none := by
  simp only [createdBy, hk]

theorem createdBy_grant {ch : Channel} {prio : Priority} {duty lease : Nat} {start : Segment}
    (hk : held.kind = .grant ch prio duty lease) (lowest : LowestFree c i) (hs : requesterStart plan = some start) :
    createdBy c held plan = some (i, newGrant (.active start held.needed) held.client ch prio duty held.rampRate
      held.rampNotify lease) := by
  simp only [createdBy, hk, freeSlot_of_lowestFree lowest, hs]

theorem requesterStart_of_mem {q : Proposal} (nodup : (plan.map fun q => q.entry.slot).Nodup) (hq : q ∈ plan)
    (slot : q.entry.slot = none) : requesterStart plan = some q.start := by
  cases h : requesterStart plan with
  | none =>
    rw [requesterStart, Option.map_eq_none_iff, List.find?_eq_none] at h
    exact absurd (by rw [slot]; rfl) (h q hq)
  | some start =>
    obtain ⟨q', hq', slot', rfl⟩ := requesterStart_some h
    rw [proposal_unique nodup hq hq' (slot.trans slot'.symm)]

end

/-! ## The event (R87, R88) -/

section
variable {s : State} {held : HeldRequest} {plan : List Proposal}

/-- The state whose controller has taken a frame start that waited, with n left. -/
def frameTaken (s : State) (n : Nat) : State := { s with events := { s.events with controllerFrames := n } }

theorem frameTaken_ctl (n : Nat) : (frameTaken s n).ctl = s.ctl := rfl
theorem frameTaken_config (n : Nat) : (frameTaken s n).config = s.config := rfl

theorem exec_repackApply {n : Nat} (raised : s.events.controllerFrames = n + 1) : exec .repackApply s =
    if s.ctl.repack = .applyPending then .next (frameTaken s n).applyPlan else .next (frameTaken s n) := by
  have elsewhere : s.meetFrameStart (n + 1) = s := if_neg fun h => absurd h.1 (Nat.succ_ne_zero n)
  show execRepackApply s = _
  unfold execRepackApply
  simp only [raised, elsewhere]
  rfl

/-- The state after the apply, before its answer. -/
def applySettled (s : State) (held : HeldRequest) (plan : List Proposal) : State :=
  ((s.withCtl (appliedController s.ctl s.config.profiles held plan)).dropPlan).settle true

theorem applyPlan_eq (hh : s.ctl.held = some held) (hp : s.planner.plan = some plan) : s.applyPlan =
    (applySettled s held plan).answerHeld held (appliedResponse s.ctl (applySettled s held plan).ctl held plan).1
      (appliedResponse s.ctl (applySettled s held plan).ctl held plan).2 := by
  simp only [State.applyPlan, hh, hp]
  rfl

theorem applySettled_table : (applySettled s held plan).ctl.table =
    ((appliedController s.ctl s.config.profiles held plan).retryPass s.config.profiles).table := by
  have idle : (appliedController s.ctl s.config.profiles held plan).inFlight = false := by
    rw [appliedController_eq, withoutRepack_inFlight]
  rw [applySettled, settle_ctl, dropPlan_ctl, withCtl_ctl, dropPlan_config, withCtl_config, passIf_of_idle_eq idle]

/-- The pass leaves what the apply left ACTIVE or CLOSED. -/
theorem applySettled_grantAt {i : SlotIx} {g : Grant}
    (now : (appliedController s.ctl s.config.profiles held plan).grantAt i = some g) (still : g.waits = false) :
    (applySettled s held plan).ctl.grantAt i = some g := by
  rw [grantAt_of_table applySettled_table, retryPass_grantAt_of_not_waits _ _ _ (by rw [now]; exact still), now]

theorem applySettled_generation (i : SlotIx) :
    (applySettled s held plan).ctl.table[i].generation = s.ctl.table[i].generation := by
  rw [applySettled_table, retryPass_generation, applied_generation]

end

section
variable {s : State} {held : HeldRequest} {plan : List Proposal}

/-- A planned grant after the apply and its pass. -/
theorem applySettled_named {q : Proposal} {i : SlotIx} {g : Grant} (nodup : (plan.map fun q => q.entry.slot).Nodup)
    (hq : q ∈ plan) (slot : q.entry.slot = some i) (hg : s.ctl.grantAt i = some g) (active : g.isActive = true) :
    (applySettled s held plan).ctl.grantAt i = some (movedRecord held (s.ctl.adjusting i) g q.start) := by
  obtain ⟨r, hs⟩ := movedRecord_active held (s.ctl.adjusting i) g q.start
  refine applySettled_grantAt ?_ (not_waits_of_active (isActive_of_active hs))
  rw [applied_of_occupied hg, moved_grantAt_of_named held nodup hq slot hg active]

theorem adjusting_of_lookup {handle target : Nat} {i : SlotIx} {g : Grant} (flying : s.ctl.inFlight = true)
    (hh : s.ctl.held = some held) (hk : held.kind = .adjust handle target) (named : s.ctl.lookup handle = some (i, g)) :
    s.ctl.adjusting i = true := by
  simp only [Controller.adjusting, hh, hk, flying, named, Option.any_some, beq_self_eq_true, Bool.and_self]

/-- The answer to an ADJUST whose plan is applied (R88 step 6). -/
theorem appliedResponse_adjust {handle target : Nat} {i : SlotIx} {g g' : Grant} {start : Segment} {r : Nat}
    (hk : held.kind = .adjust handle target) (named : s.ctl.lookup handle = some (i, g))
    (now : (applySettled s held plan).ctl.grantAt i = some g') (hs : g'.state = .active start r) :
    appliedResponse s.ctl (applySettled s held plan).ctl held plan = (.ok, put16 handle ++ [1] ++ put16 g'.targetDuty ++
      put16 g'.presentDuty ++ put8 g'.rampRate ++ putBool g'.rampNotify ++ (put8 start.val ++ put8 r)) := by
  obtain ⟨-, handle_eq⟩ := (lookup_some_iff _ _ _ _).1 named
  have handle' : (applySettled s held plan).ctl.handleAt i = handle := by
    rw [← handle_eq, handleAt_def, handleAt_def, applySettled_generation]
  have named' : (applySettled s held plan).ctl.lookup handle = some (i, g') := (lookup_some_iff _ _ _ _).2 ⟨now, handle'⟩
  simp only [appliedResponse, hk, named', adjustPayload_active hs, handle']

/-- The answer to a GRANT whose plan is applied (R88 step 6). -/
theorem appliedResponse_grant {ch : Channel} {prio : Priority} {duty lease : Nat} {i : SlotIx} {g g' : Grant}
    {start : Segment} {r : Nat} (hk : held.kind = .grant ch prio duty lease) (made : createdBy s.ctl held plan = some (i, g))
    (now : (applySettled s held plan).ctl.grantAt i = some g') (hs : g'.state = .active start r) :
    appliedResponse s.ctl (applySettled s held plan).ctl held plan = (.ok, put16 (s.ctl.table[i].generation.val * 32 + i.val) ++
      [1] ++ put8 start.val ++ put8 r ++ [0xFF, 0xFF, 0xFF]) := by
  simp only [appliedResponse, hk, made, now, grantPayload_active hs, handleAt_of_generation (applySettled_generation i)]

end

/-- What the apply leaves of the repack, and its pass (R88 steps 4 to 6). -/
theorem applySettled_ended (s : State) (held : HeldRequest) (plan : List Proposal) :
    (applySettled s held plan).ctl.repack = .idle ∧ (applySettled s held plan).ctl.held = none ∧
    (applySettled s held plan).planner.plan = none ∧ AlertsExact (applySettled s held plan) ∧
    SameButSummaries (applySettled s held plan).ctl
      ((appliedController s.ctl s.config.profiles held plan).retryPass s.config.profiles) := by
  have none : (appliedController s.ctl s.config.profiles held plan).repack = .idle ∧
      (appliedController s.ctl s.config.profiles held plan).held = Option.none := by rw [appliedController_eq]; exact ⟨rfl, rfl⟩
  have idle : (appliedController s.ctl s.config.profiles held plan).inFlight = false := by
    rw [appliedController_eq, withoutRepack_inFlight]
  obtain ⟨-, -, -, repack, noHeld, -⟩ := passIf_ceilings (c := appliedController s.ctl s.config.profiles held plan)
    (profiles := s.config.profiles) true
  have ctl : (applySettled s held plan).ctl = _ := settle_ctl _ _
  rw [dropPlan_ctl, withCtl_ctl, dropPlan_config, withCtl_config] at ctl
  refine ⟨?_, ?_, rfl, settle_exact _ _, ?_⟩
  · rw [ctl]; exact repack.trans none.1
  · rw [ctl]; exact noHeld.trans none.2
  · rw [ctl, passIf_of_idle_eq idle]; rfl

/-- Settles O59: outside APPLY_PENDING, and the apply with its answers. -/
theorem repackApplied : Obligations.RepackApplied := by
  intro s n raised
  have run := exec_repackApply raised
  refine ⟨fun other => by rw [run, if_neg other]; rfl, fun held plan due hh hp nodup => ?_⟩
  rw [if_pos due, applyPlan_eq (s := frameTaken s n) hh hp] at run
  obtain ⟨told, htold⟩ : ∃ told, told = appliedResponse s.ctl (applySettled (frameTaken s n) held plan).ctl held plan :=
    ⟨_, rfl⟩
  rw [frameTaken_ctl, ← htold] at run
  have flying := inFlight_of_applyPending due
  have answered : ∀ {code bytes}, held.code = code → told = (.ok, bytes) → Answered ((applySettled (frameTaken s n) held plan).answerHeld held told.1
      told.2) held.port (BitVec.ofNat 8 held.client.val) code .ok bytes := fun same e => by
    rw [e, ← same]; exact answerHeld_answered _ _ _ _
  have occupied : ∀ {i g}, s.ctl.grantAt i = some g → (g.isActive = false ∨ ∀ q ∈ plan, q.entry.slot ≠ some i) →
      (appliedController s.ctl s.config.profiles held plan).grantAt i = some g := fun {i g} hg aside => by
    rw [applied_of_occupied hg, ← hg]
    exact aside.elim (fun inactive => moved_grantAt_of_inactive held plan (by rw [hg]; exact inactive))
      (moved_grantAt_of_unnamed held)
  obtain ⟨waiting, tier, peak, charge, serial⟩ := applied_kept (c := s.ctl) (profiles := s.config.profiles) (held := held)
    (plan := plan)
  obtain ⟨repack, noHeld, noPlan, alerts, pass⟩ := applySettled_ended (frameTaken s n) held plan
  have frame : EventKeptHeldAnswered s ((applySettled (frameTaken s n) held plan).answerHeld held told.1 told.2) held :=
    eventKeptHeld_answer_settled (frameTaken s n) _ held true told.1 told.2
  obtain ⟨⟨-, config, -, timer, engine, supply, -⟩, -⟩ := id frame
  refine ⟨_, run, ?_, ?_, ?_, (answerHeld_sameAlerts _ _ _ _).exact alerts, config, timer, engine, supply, frame, ?_,
    ⟨?_, fun k => ?_, ?_, waiting, tier, peak, charge, serial, applied_generation, fun handle target hk => ?_,
      fun ch prio duty lease i hk lowest some => ?_, fun i g => occupied⟩, fun i g hg still inactive => ?_,
    fun q i g start r hq slot hg hs still => ?_, fun handle target q i g hk hq slot named active => ?_,
    fun ch prio duty lease q i hk hq slot lowest => ?_⟩
  · rw [answerHeld_ctl]; exact repack
  · rw [answerHeld_ctl]; exact noHeld
  · rw [answerHeld_planner]; exact noPlan
  · rw [answerHeld_events]; rfl
  · rw [answerHeld_ctl]; exact pass
  · exact (applied_load k).trans
      (congrArg (fun part => ((List.finRange 32).map part).sum) (funext fun i => loadFrom_eq _ _ k i))
  · exact applied_charge.trans
      (congrArg (fun part => ((List.finRange 32).map part).sum) (funext fun i => chargeFrom_eq _ _ i))
  · have none := createdBy_adjust (c := s.ctl) (plan := plan) hk
    obtain ⟨moved, admission⟩ := applied_of_no_creation (profiles := s.config.profiles) none
    exact ⟨admission, fun i free => by rw [moved, moved_grantAt_of_inactive held plan (any_active_of_none free), free]⟩
  · obtain ⟨q, hq, slot⟩ := some
    exact (applied_of_creation (createdBy_grant hk lowest (requesterStart_of_mem nodup hq slot))).2.2
  · rw [answerHeld_ctl]
    exact applySettled_grantAt (s := frameTaken s n) (occupied hg (.inl inactive)) still
  · rw [answerHeld_ctl, applySettled_named (s := frameTaken s n) nodup hq slot hg (isActive_of_active hs), frameTaken_ctl,
      still, movedRecord_other, room_of_state hs]
  · have adj := adjusting_of_lookup flying hh hk named
    have now := applySettled_named (s := frameTaken s n) (held := held) nodup hq slot (lookup_grantAt named) active
    rw [frameTaken_ctl, adj, movedRecord_adjusted hk] at now
    refine ⟨by rw [answerHeld_ctl]; exact now, ?_⟩
    have code : held.code = 0x02 := by simp only [HeldRequest.code, hk]
    exact answered code (htold.trans (appliedResponse_adjust (s := frameTaken s n) hk named now rfl))
  · have made := createdBy_grant hk lowest (requesterStart_of_mem nodup hq slot)
    have now := applySettled_grantAt (s := frameTaken s n) (applied_of_creation (profiles := s.config.profiles) made).1 rfl
    have code : held.code = 0x01 := by simp only [HeldRequest.code, hk]
    refine ⟨?_, ?_⟩
    · rw [answerHeld_ctl]
      exact slot_of_grantAt (applySettled_generation (s := frameTaken s n) i) now
    · exact answered code (htold.trans (appliedResponse_grant (s := frameTaken s n) hk made now rfl))

end Sys2Proof.Proofs
end

section
/-! SUPPORT. The capture: ramp steps, ramp completes and windows, and the windows' containment in the reservations (O47). -/

namespace Sys2Proof.Proofs

open Sys2Proof Sys2Proof.Machine Sys2Proof.Safety Sys2Proof.Laws

/-! ## Ramps (R99, R100) -/

/-- The law of a ramp at a rate above 0: each capture takes it one rate nearer its target, where it stays. -/
theorem rampAfter_eq {target rate : Nat} (positive : 1 ≤ rate) (n present : Nat) : rampAfter target rate n present =
    if present ≤ target then min target (present + n * rate) else max target (present - n * rate) := by
  induction n generalizing present with
  | zero =>
    simp only [rampAfter, Nat.zero_mul, Nat.add_zero, Nat.sub_zero]
    split <;> omega
  | succ n ih =>
    have step : rampStep present target rate =
        if present < target then min target (present + rate) else max target (present - rate) :=
      if_neg (Nat.ne_of_gt positive)
    rw [rampAfter, ih, step, Nat.succ_mul]
    generalize n * rate = gone
    split_ifs <;> omega

section
variable {g : Grant}

theorem stepped_of_active (h : g.isActive = true) : g.stepped =
    { g with presentDuty := rampStep g.presentDuty g.targetDuty g.rampRate } := if_pos h
theorem stepped_of_inactive (h : g.isActive = false) : g.stepped = g := if_neg (by simp [h])
theorem stepped_isActive (g : Grant) : g.stepped.isActive = g.isActive := isActive_of_state (stepped_state g)

theorem completesNow_iff : g.completesNow = true ↔
    g.isActive = true ∧ g.presentDuty ≠ g.targetDuty ∧ g.stepped.presentDuty = g.targetDuty := by
  simp [Grant.completesNow, and_assoc]

/-- A step of a ramp stays within a reservation that covers its present and its target duty (R98). -/
theorem stepped_within_room {profiles : Vector Profile 16} (bound : grantBounded profiles g) (active : g.isActive = true) :
    footprint g.stepped.presentDuty ≤ g.stepped.room := by
  obtain ⟨present, target⟩ := bound.2.2 active
  rw [stepped_room]
  rcases le_max_iff.1 (stepped_present_le g) with le | le
  · exact (footprint_mono le).trans present
  · exact (footprint_mono le).trans target

end

section
variable {c : Controller}

theorem handleAt_injective (c : Controller) : Function.Injective c.handleAt := fun i j same => by
  have slots := congrArg handleSlot same
  rwa [handleAt_def, handleAt_def, handleSlot_handleValue, handleSlot_handleValue] at slots

theorem mem_completions {e : RampEvent} : e ∈ c.completions ↔
    ∃ i g, c.grantAt i = some g ∧ g.completesNow = true ∧ e = ⟨c.handleAt i, g.targetDuty⟩ := by
  simp only [Controller.completions, List.mem_filterMap, mem_slotsWhere, Option.any_eq_true, Option.map_eq_some_iff]
  constructor
  · rintro ⟨i, ⟨g, hg, now⟩, g', hg', rfl⟩
    obtain rfl : g = g' := Option.some_injective _ (hg.symm.trans hg')
    exact ⟨i, g, hg, now, rfl⟩
  · rintro ⟨i, g, hg, now, rfl⟩
    exact ⟨i, ⟨g, hg, now⟩, g, hg, rfl⟩

theorem completions_nodup (c : Controller) : c.completions.Nodup := by
  refine (slotsWhere_nodup c Grant.completesNow).filterMap fun i j e hi hj => ?_
  simp only [Option.mem_def, Option.map_eq_some_iff] at hi hj
  obtain ⟨_, _, from_i⟩ := hi
  obtain ⟨_, _, from_j⟩ := hj
  exact handleAt_injective c (congrArg RampEvent.handle (from_i.trans from_j.symm))

theorem stepRamps_table_only (c : Controller) : c.stepRamps = { c with table := c.stepRamps.table } := rfl
theorem stepRamps_loadMap (c : Controller) : c.stepRamps.loadMap = c.loadMap := by simp only [Controller.stepRamps]

end

/-! ## The windows of a capture (R157) -/

section
variable {c : Controller} {u : ChannelUnit} {ch : Channel} {g : Grant} {start : Segment} {r : Nat}

theorem window_of_dark (h : g.presentDuty = 0) : g.window = none := by
  unfold Grant.window
  split
  · exact if_pos h
  · rfl
theorem window_of_lit (hs : g.state = .active start r) (lit : 1 ≤ g.presentDuty) :
    g.window = some ⟨⟨32 * start.val, by omega⟩, g.presentDuty⟩ := by
  simp only [Grant.window, hs, if_neg (Nat.ne_of_gt lit)]

theorem window_some {w : Window} (h : g.window = some w) :
    ∃ start r, g.state = .active start r ∧ w.start.val = 32 * start.val ∧ w.length = g.presentDuty := by
  unfold Grant.window at h
  split at h
  · rename_i start r hs
    split at h
    · cases h
    · cases h; exact ⟨start, r, hs, rfl, rfl⟩
  · cases h

theorem capturedWindow_some {w : Window} (h : capturedWindow c u ch = some w) : ∃ i g start r, c.grantAt i = some g ∧
    g.state = .active start r ∧ g.channel = ch ∧ w.start.val = 32 * start.val ∧ w.length = g.presentDuty := by
  unfold capturedWindow at h
  split at h
  · cases h
  · obtain ⟨g, found, hw⟩ := Option.bind_eq_some_iff.1 h
    obtain ⟨i, search, hg⟩ := Option.bind_eq_some_iff.1 found
    obtain ⟨g', hg', test⟩ := findSlot_some search
    obtain rfl : g = g' := Option.some_injective _ (hg.symm.trans hg')
    rw [Bool.and_eq_true, beq_iff_eq] at test
    obtain ⟨start, r, hs, first, long⟩ := window_some hw
    exact ⟨i, g, start, r, hg, hs, test.2, first, long⟩

theorem capturedWindow_none (h : ∀ i g, c.grantAt i = some g → g.isActive = true → g.channel ≠ ch) :
    capturedWindow c u ch = none := by
  refine Option.eq_none_iff_forall_ne_some.2 fun w hw => ?_
  obtain ⟨i, g, start, r, hg, hs, there, -⟩ := capturedWindow_some hw
  exact h i g hg (isActive_of_active hs) there

/-- An OK channel with one ACTIVE grant takes that grant's window. -/
theorem capturedWindow_single {i : SlotIx} (ok : u.fault = .ok) (hg : c.grantAt i = some g) (active : g.isActive = true)
    (there : g.channel = ch)
    (single : ∀ j gj, c.grantAt j = some gj → gj.isActive = true → gj.channel = ch → j = i) :
    capturedWindow c u ch = g.window := by
  have search : (c.findSlot fun g => g.isActive && g.channel == ch) = some i := by
    cases found : c.findSlot fun g => g.isActive && g.channel == ch with
    | none => exact absurd (findSlot_none found hg) (by simp [active, there])
    | some j =>
      obtain ⟨gj, hj, test⟩ := findSlot_some found
      rw [Bool.and_eq_true, beq_iff_eq] at test
      rw [single j gj hj test.1 test.2]
  have lit : ¬ u.fault = .faulted := fun faulted => FaultState.noConfusion (ok.symm.trans faulted)
  rw [capturedWindow, if_neg lit, search, Option.bind_some, hg, Option.bind_some]

/-- Of a channel's unit the window depends on the fault state alone. -/
theorem capturedWindow_congr {v : ChannelUnit} (h : u.fault = v.fault) : capturedWindow c u ch = capturedWindow c v ch := by
  simp only [capturedWindow, h]

/-- A step inside an on-window lies in a segment of a run that is as long as the window's footprint (R34). -/
theorem covers_of_step {duty m : Nat} {step : StepIx} (long : footprint duty ≤ r) (inside : m < duty)
    (here : step.val = (32 * start.val + m) % 2048) : covers start r ⟨step.val / 32, by omega⟩ = true := by
  have first := start.isLt
  have bound := step.isLt
  unfold footprint at long
  simp only [covers, decide_eq_true_eq]
  omega

end

/-! ## The current at a step (R41) -/

/-- Where each channel that is on draws what the slot of its grant holds at most, the channels on draw no more than the slots hold
together: a slot's grant has one channel. -/
theorem sum_channels_le_slots {on : Channel → Bool} {current : Channel → Nat} {part : SlotIx → Nat}
    (channelAt : SlotIx → Option Channel)
    (h : ∀ ch, on ch = true → ∃ i, channelAt i = some ch ∧ current ch ≤ part i) :
    ((List.finRange 16).map fun ch => if on ch then current ch else 0).sum ≤ (allSlots.map part).sum := by
  have named (ch : Channel) :
      (if on ch then current ch else 0) ≤ ∑ i : SlotIx, if channelAt i = some ch then part i else 0 := by
    split
    · rename_i lit
      obtain ⟨i, there, le⟩ := h ch lit
      refine le.trans ?_
      have one := Finset.single_le_sum (f := fun i => if channelAt i = some ch then part i else 0)
        (fun _ _ => Nat.zero_le _) (Finset.mem_univ i)
      simpa only [there, if_true] using one
    · exact Nat.zero_le _
  have once (i : SlotIx) : (∑ ch : Channel, if channelAt i = some ch then part i else 0) ≤ part i := by
    cases channelAt i with
    | none => simp
    | some ch => simp
  unfold allSlots
  rw [← Fin.sum_univ_def, ← Fin.sum_univ_def]
  calc ∑ ch : Channel, (if on ch then current ch else 0)
      ≤ ∑ ch : Channel, ∑ i : SlotIx, (if channelAt i = some ch then part i else 0) := Finset.sum_le_sum fun ch _ => named ch
    _ = ∑ i : SlotIx, ∑ ch : Channel, (if channelAt i = some ch then part i else 0) := Finset.sum_comm
    _ ≤ ∑ i : SlotIx, part i := Finset.sum_le_sum fun i _ => once i

/-! ## The frame start at the engine (R156) -/

/-- The state a waiting frame start captures from: the event taken and the samples evaluated. -/
def engineTaken (s : State) (n : Nat) : State := { s with events := { s.events with engineFrames := n } }.evaluateAll

section
variable {s : State} {n : Nat}

theorem engineTaken_ctl (s : State) (n : Nat) : (engineTaken s n).ctl = s.ctl := rfl

theorem engineTaken_engine (s : State) (n : Nat) (ch : Channel) :
    (engineTaken s n).engine[ch] = s.engine[ch].evaluate s.config.profiles[ch] := evaluateAll_engine _ ch

theorem windowAt_of_idle (idle : s.running = false) (ch : Channel) : windowAt s ch = none := by
  simp only [windowAt, idle, Bool.false_eq_true, if_false]
theorem windowAt_of_running (run : s.running = true) (ch : Channel) :
    windowAt s ch = capturedWindow s.ctl.stepRamps s.engine[ch] ch := if_pos run

theorem capture_ctl (s : State) : s.capture.ctl = capturedFrom s := by
  unfold State.capture capturedFrom; split <;> rfl
theorem capture_rampCompletes (s : State) : s.capture.events.rampCompletes =
    s.events.rampCompletes ++ if s.running then s.ctl.completions else [] := by
  unfold State.capture
  split
  · rfl
  · exact (List.append_nil _).symm
theorem capture_blocks (s : State) : s.capture =
    { s with ctl := s.capture.ctl, engine := s.capture.engine, events := s.capture.events } := by
  unfold State.capture; split <;> rfl
theorem capture_events (s : State) : s.capture.events = { s.events with
    channelFaults := s.capture.events.channelFaults, rampCompletes := s.capture.events.rampCompletes } := by
  unfold State.capture; split <;> rfl

theorem engineFrame_eq (h : s.events.engineFrames = n + 1) : s.engineFrame = (engineTaken s n).capture.clearSamples :=
  engineFrame_of_waiting h
theorem engineFrame_ctl (h : s.events.engineFrames = n + 1) : s.engineFrame.ctl = capturedFrom s := by
  rw [engineFrame_eq h]; exact capture_ctl _
theorem engineFrame_blocks (h : s.events.engineFrames = n + 1) : s.engineFrame =
    { s with ctl := s.engineFrame.ctl, engine := s.engineFrame.engine, events := s.engineFrame.events } := by
  rw [engineFrame_eq h]
  exact congrArg State.clearSamples (capture_blocks (engineTaken s n))
theorem engineFrame_events (h : s.events.engineFrames = n + 1) : s.engineFrame.events = { s.events with
    engineFrames := n, channelFaults := s.engineFrame.events.channelFaults,
    rampCompletes := s.engineFrame.events.rampCompletes } := by
  rw [engineFrame_eq h]
  exact capture_events (engineTaken s n)
theorem engineFrame_rampCompletes (h : s.events.engineFrames = n + 1) : s.engineFrame.events.rampCompletes =
    s.events.rampCompletes ++ if s.running then s.ctl.completions else [] := by
  rw [engineFrame_eq h]; exact capture_rampCompletes _

/-- In CONFIG a capture makes the window none. -/
theorem engineFrame_window_config (h : s.events.engineFrames = n + 1) (idle : s.running = false) (ch : Channel) :
    s.engineFrame.engine[ch].window = none := by
  rw [engineFrame_engine h]
  exact windowAt_of_idle (s := engineTaken s n) idle ch

/-- In RUN a capture forms a channel's window from the stepped grants and the evaluated fault state. -/
theorem engineFrame_window_run (h : s.events.engineFrames = n + 1) (run : s.running = true) (ch : Channel) :
    s.engineFrame.engine[ch].window = capturedWindow s.ctl.stepRamps s.engineFrame.engine[ch] ch := by
  have window : s.engineFrame.engine[ch].window = windowAt (engineTaken s n) ch := by rw [engineFrame_engine h]; rfl
  have fault : (engineTaken s n).engine[ch].fault = s.engineFrame.engine[ch].fault := by
    rw [engineFrame_engine h, engineTaken_engine]
  rw [window, windowAt_of_running (s := engineTaken s n) run, engineTaken_ctl]
  exact capturedWindow_congr fault

/-- A channel that is on at a step lies there in the reservation of an ACTIVE grant of it (R34). -/
theorem covers_of_on (h : s.events.engineFrames = n + 1) (bound : ReservationBound s) {ch : Channel} {step : StepIx}
    (lit : (s.engineFrame.engine[ch].window.any fun w =>
      (List.range w.length).any fun m => step.val == (w.start.val + m) % 2048) = true) :
    ∃ i g start r, s.engineFrame.ctl.grantAt i = some g ∧ g.state = .active start r ∧ g.channel = ch ∧
      covers start r ⟨step.val / 32, by omega⟩ = true := by
  obtain ⟨w, hw, inside⟩ := (Option.any_eq_true _ _).1 lit
  obtain ⟨m, hm, here⟩ := List.any_eq_true.1 inside
  rw [List.mem_range] at hm
  rw [beq_iff_eq] at here
  cases run : s.running with
  | false => rw [engineFrame_window_config h run] at hw; cases hw
  | true =>
    rw [engineFrame_window_run h run] at hw
    obtain ⟨i, g, start, r, hg, hs, there, first, long⟩ := capturedWindow_some hw
    have stepped := hg
    rw [stepRamps_grantAt, Option.map_eq_some_iff] at stepped
    obtain ⟨old, hold, rfl⟩ := stepped
    have active : old.isActive = true := (stepped_isActive old).symm.trans (isActive_of_active hs)
    have room := stepped_within_room (bound.2.2 i old hold) active
    rw [room_of_state hs] at room
    refine ⟨i, old.stepped, start, r, ?_, hs, there, covers_of_step room (long ▸ hm) (first ▸ here)⟩
    rw [engineFrame_ctl h, capturedFrom, if_pos run]
    exact hg

/-- A capture leaves what the slots put into the map. -/
theorem engineFrame_loadFrom (h : s.events.engineFrames = n + 1) (profiles : Vector Profile 16) (k : Segment) (i : SlotIx) :
    s.engineFrame.ctl.loadFrom profiles k i = s.ctl.loadFrom profiles k i := by
  rw [engineFrame_ctl h, capturedFrom]
  split
  · cases hg : s.ctl.grantAt i with
    | none => rw [loadFrom_none hg, loadFrom_none (by rw [stepRamps_grantAt, hg]; rfl)]
    | some g =>
      rw [loadFrom_some hg, loadFrom_some (g := g.stepped) (by rw [stepRamps_grantAt, hg]; rfl)]
      simp only [loadOf, stepped_state, stepped_channel]
  · rfl

theorem engineFrame_loadMap (h : s.events.engineFrames = n + 1) : s.engineFrame.ctl.loadMap = s.ctl.loadMap := by
  rw [engineFrame_ctl h, capturedFrom]
  split
  · exact stepRamps_loadMap s.ctl
  · exact Eq.refl s.ctl.loadMap

/-- The channels on at a step draw together no more than its segment's entry in the map (R41). -/
theorem current_le_loadMap (h : s.events.engineFrames = n + 1) (account : MapExact s) {on : Channel → Bool} {k : Segment}
    (inside : ∀ ch : Channel, on ch = true → ∃ i g start r, s.engineFrame.ctl.grantAt i = some g ∧
      g.state = .active start r ∧ g.channel = ch ∧ covers start r k = true) :
    ((List.finRange 16).map fun ch => if on ch then s.config.profiles[ch].current else 0).sum ≤
      s.engineFrame.ctl.loadMap[k] := by
  rw [engineFrame_loadMap h, account.1 k, ← sum_slots_congr (engineFrame_loadFrom h s.config.profiles k)]
  refine sum_channels_le_slots (fun i => (s.engineFrame.ctl.grantAt i).map Grant.channel) fun ch lit => ?_
  obtain ⟨i, g, start, r, hg, hs, there, cover⟩ := inside ch lit
  refine ⟨i, by rw [hg, Option.map_some, there], ?_⟩
  rw [loadFrom_some hg, loadOf_active hs, if_pos cover, there]
  exact le_refl _

end

/-- Settles O47: the frame start by its parts, the windows inside the reservations, the currents summed over the channels against
the slots' loads, and the ramp law by induction on the captures. -/
theorem engineFrameCaptures : Obligations.EngineFrameCaptures := by
  refine ⟨fun s n waits => ⟨s.engineFrame, rfl, engineFrame_blocks waits, ?_, engineFrame_events waits, fun ch => ?_,
    fun config => ?_, fun running => ?_, fun bound step => ⟨fun ch => covers_of_on waits bound, fun account =>
      current_le_loadMap waits account fun ch => covers_of_on waits bound⟩⟩,
    fun present target rate n positive => rampAfter_eq positive n present⟩
  · rw [engineFrame_ctl waits, capturedFrom]
    split
    · exact stepRamps_table_only _
    · rfl
  · rw [engineFrame_engine waits]
    exact ⟨rfl, rfl, rfl⟩
  · have idle := not_running_iff.2 config
    refine ⟨by simp [engineFrame_ctl waits, capturedFrom, idle], ?_, engineFrame_window_config waits idle⟩
    simp [engineFrame_rampCompletes waits, idle]
  · have run := running_iff.2 running
    have ctl : s.engineFrame.ctl = s.ctl.stepRamps := (engineFrame_ctl waits).trans (if_pos run)
    have grants (i : SlotIx) : s.engineFrame.ctl.grantAt i = (s.ctl.grantAt i).map Grant.stepped := by
      rw [ctl, stepRamps_grantAt]
    have windows := engineFrame_window_run waits run
    rw [← ctl] at windows
    refine ⟨fun i => ⟨by rw [ctl, stepRamps_generation], fun free => by rw [grants, free]; rfl, fun g hg => ⟨fun inactive => ?_,
      fun active => ?_⟩⟩, ⟨s.ctl.completions, ?_, completions_nodup _, fun e => ?_⟩, fun ch faulted => ?_, fun ch lacking => ?_,
      fun ch i g start r ok hg hs there single => ⟨fun dark => ?_, fun lit => ?_⟩⟩
    · rw [grants, hg, Option.map_some, stepped_of_inactive inactive]
    · rw [grants, hg, Option.map_some, stepped_of_active active]; rfl
    · rw [engineFrame_rampCompletes waits, if_pos run]
    · rw [mem_completions]
      constructor
      · rintro ⟨i, g, hg, now, rfl⟩
        obtain ⟨active, short, reached⟩ := completesNow_iff.1 now
        exact ⟨i, g, g.stepped, hg, by rw [grants, hg, Option.map_some], active, short, reached, rfl⟩
      · rintro ⟨i, g, g', hg, hg', active, short, reached, rfl⟩
        rw [grants, hg, Option.map_some, Option.some_inj] at hg'
        exact ⟨i, g, hg, completesNow_iff.2 ⟨active, short, by rw [hg', reached]⟩, rfl⟩
    · rw [windows]
      exact if_pos faulted
    · rw [windows]
      exact capturedWindow_none lacking
    · rw [windows, capturedWindow_single ok hg (isActive_of_active hs) there single, window_of_dark dark]
    · refine ⟨⟨⟨32 * start.val, by omega⟩, g.presentDuty⟩, ?_, rfl, rfl⟩
      rw [windows, capturedWindow_single ok hg (isActive_of_active hs) there single, window_of_lit hs lit]

end Sys2Proof.Proofs
end
